-- ==== Sys2Proof/Word.lean ====
section
/-! DEFINITION. The word types of the RB-640 and their plainest constants. -/

namespace Sys2Proof

/-- One byte of DRAM, of the ROM or of the modem link. -/
abbrev Byte := BitVec 8

/-- A 16-bit host word (R129). -/
abbrev Half := BitVec 16

/-- A motor position: a signed 32-bit step count (Conventions, Positions). -/
abbrev Position := BitVec 32

/-- A line of 1728 dots, black = 1 (Conventions, Line data). Dot 0 is the most significant bit, so that the 216
bytes of the line format are the big-endian bytes of this number. -/
abbrev Line := BitVec 1728

/-- An all-white line. -/
def Line.white : Line := 0#1728

/-- Dot p of a line: true is black (Conventions, Line data). -/
def Line.dot (l : Line) (p : Nat) : Bool := l.getLsbD (1727 - p) && decide (p < 1728)

end Sys2Proof
end

