-- ==== Sys2Proof/Syntax.lean ====
section
/-! DEFINITION. The commands: one constructor for each row of spec/opcode_table.json, in the table's order. -/

namespace Sys2Proof

/-- The six work chains in their numbering 0 to 5 (R113). -/
inductive ChainId where
  | scan | print | send | receive | docMotion | paperMotion
  deriving DecidableEq, Repr

/-- The two stepper channels: D moves the document, P the paper (chapter 2). -/
inductive ChannelId where
  | d | p
  deriving DecidableEq, Repr

/-- The six sensors in their coding 0 to 5 (R38, section 11.3). -/
inductive Sensor where
  | docPresent | docRead | paperPresent | coverOpen | hook | key
  deriving DecidableEq, Repr

/-- What a host bus cycle does. A byte write carries its byte in the low half of the word. -/
inductive HostAccess where
  | read
  | write (data : Half)
  deriving DecidableEq, Repr

/-- One host bus cycle: a 24-bit byte address, a word or a byte access (R129). -/
structure HostCycle where
  addr : BitVec 24
  isWord : Bool
  access : HostAccess
  deriving DecidableEq, Repr

/-- The commands of spec/opcode_table.json. `mask` is the wake mask a PWRCTL write carries (bits 12 to 8 of the
register, here 4 to 0: RING, HOOK, KEY, DOCUMENT, TIMER). `word` is the 16-bit value a host register write carries. -/
inductive Instr where
  /-- COLD_RESET (R156): power-on or the RESET pin. -/
  | coldReset
  /-- BOOT_SKIP_SAMPLE (R156): the strap is sampled, high or low. -/
  | bootSkipSample (high : Bool)
  /-- START (R133). -/
  | start (mask : BitVec 5)
  /-- ENGINE_RESET (R134). -/
  | engineReset (mask : BitVec 5)
  /-- ENGINE_RESET_COMPLETE (R127). -/
  | engineResetComplete
  /-- GO_DOZE (R145). -/
  | goDoze (mask : BitVec 5)
  /-- GO_ACTIVE (R145). -/
  | goActive (mask : BitVec 5)
  /-- GO_SLEEP (R145). -/
  | goSleep (mask : BitVec 5)
  /-- CANCEL (R145). -/
  | cancel (mask : BitVec 5)
  /-- NONE (R135). -/
  | none (mask : BitVec 5)
  /-- NO_COMMAND (R135): command code 7. -/
  | noCommand (mask : BitVec 5)
  /-- FOLLOW_NUDGE (R122): a NUDGE write that names no cut bit. -/
  | followNudge (word : Half)
  /-- CUT (R124): a NUDGE write with at least one cut bit; its follow bits act after them. -/
  | cut (word : Half)
  /-- NOTES_CLEAR (R140). -/
  | notesClear (word : Half)
  /-- NOTEMASK_WRITE (R140). -/
  | notemaskWrite (word : Half)
  /-- AREA_WRITE (R132). -/
  | areaWrite (word : Half)
  /-- PAGEDROP (R14). -/
  | pagedrop (word : Half)
  /-- BUS_ERROR (R130). -/
  | busError (cycle : HostCycle)
  /-- HOST_DRAM_ACCESS (R129). -/
  | hostDramAccess (cycle : HostCycle)
  /-- DRAM_GRANT (R138). -/
  | dramGrant
  /-- REFRESH_TIMER_EXPIRY (R137). -/
  | refreshTimerExpiry
  /-- LINK_READ_COMPLETE (R116). -/
  | linkReadComplete (chain : ChainId)
  /-- HEADER_READ_COMPLETE (R116). -/
  | headerReadComplete (chain : ChainId)
  /-- BODY_READ_COMPLETE (R116). -/
  | bodyReadComplete (chain : ChainId)
  /-- TAKEN_WRITE_COMPLETE (R116). -/
  | takenWriteComplete (chain : ChainId)
  /-- STATE_WRITE_COMPLETE (R119). -/
  | stateWriteComplete (chain : ChainId)
  /-- SCAN_PAGE (R52): the scan unit acts on the SCAN PAGE handed to it. -/
  | scanPage
  /-- GRAY_CAPTURE (R62). -/
  | grayCapture
  /-- SCAN_TABLE_LOAD (R63). -/
  | scanTableLoad
  /-- PRINT_PAGE (R68). -/
  | printPage
  /-- HEAT_TABLE_LOAD (R87). -/
  | heatTableLoad
  /-- SEND_BLOCK (R102). -/
  | sendBlock
  /-- MODE_CHANGE (R105). -/
  | modeChange
  /-- CONDITION_WAIT (R106). -/
  | conditionWait
  /-- RECEIVE_BUFFER (R109). -/
  | receiveBuffer
  /-- MOVE (R31), on the motion chain of the channel. -/
  | move (channel : ChannelId)
  /-- MOVE_TO_EDGE (R32). -/
  | moveToEdge (channel : ChannelId)
  /-- HOLD (R34). -/
  | hold (channel : ChannelId)
  /-- RELEASE (R34). -/
  | release (channel : ChannelId)
  /-- SENSOR_WAIT (R35). -/
  | sensorWait (channel : ChannelId)
  /-- MOTOR_TABLE_LOAD (R36). -/
  | motorTableLoad (channel : ChannelId)
  /-- STEP (R23): the channel's next step is issued. -/
  | step (channel : ChannelId)
  /-- HOLD_TIMER_EXPIRY (R25). -/
  | holdTimerExpiry (channel : ChannelId)
  /-- SENSOR_ACCEPT (R38): the debounce time has passed. -/
  | sensorAccept (sensor : Sensor)
  /-- SENSOR_WAIT_TIMEOUT (R35). -/
  | sensorWaitTimeout (channel : ChannelId)
  /-- LAMP_WARMUP_EXPIRY (R42). -/
  | lampWarmupExpiry
  /-- LAMP_LINGER_EXPIRY (R42). -/
  | lampLingerExpiry
  /-- LINE_BOUNDARY (R44): the samples of the line just read, in the order they arrived. -/
  | lineBoundary (samples : List Byte)
  /-- BAND_WAIT_EXPIRY (R57). -/
  | bandWaitExpiry
  /-- LINE_BUFFER_WRITE_COMPLETE (R49). -/
  | lineBufferWriteComplete
  /-- GRAY_ROW_WRITE_COMPLETE (R62). -/
  | grayRowWriteComplete
  /-- SUPPLY_SETTLE_EXPIRY (R65). -/
  | supplySettleExpiry
  /-- SUPPLY_LINGER_EXPIRY (R65). -/
  | supplyLingerExpiry
  /-- TEMP_SAMPLE_COMPLETE (R85): the converted temperature code. -/
  | tempSampleComplete (code : Byte)
  /-- FETCH_COMPLETE (R73). -/
  | fetchComplete
  /-- LINE_DUE (R77). -/
  | lineDue
  /-- OVERHEAT_EXPIRY (R79). -/
  | overheatExpiry
  /-- LOAD_END (R93). -/
  | loadEnd
  /-- GROUP_ENERGIZE_END (R93). -/
  | groupEnergizeEnd
  /-- FRAME_SYNC (R95). -/
  | frameSync
  /-- FRAME_REPORT (R95): the pump's modem report octet and in data octet. -/
  | frameReport (report : Byte) (inData : Byte)
  /-- LINK_TIMER_EXPIRY (R96). -/
  | linkTimerExpiry
  /-- SEND_STORE_FETCH_COMPLETE (R102). -/
  | sendStoreFetchComplete
  /-- RECEIVE_WRITE_COMPLETE (R107). -/
  | receiveWriteComplete
  /-- RECEIVE_HOLD_EXPIRY (R108). -/
  | receiveHoldExpiry
  /-- CONDITION_WAIT_TIMEOUT (R106). -/
  | conditionWaitTimeout
  /-- IDLE_TIMER_EXPIRY (R144). -/
  | idleTimerExpiry
  /-- WAKE_TIMER_EXPIRY (R152). -/
  | wakeTimerExpiry
  /-- OSCILLATOR_SETTLED (R153). -/
  | oscillatorSettled
  /-- ROM_BYTE (R157): a byte of the read transaction in progress. -/
  | romByte (byte : Byte)
  /-- BLINK_TIMER_EXPIRY (R165). -/
  | blinkTimerExpiry
  /-- SENSOR_RAW_CHANGE (R38): true is the first level of the sensor's row. -/
  | sensorRawChange (sensor : Sensor) (level : Bool)
  deriving DecidableEq, Repr

end Sys2Proof
end

