-- ==== Sys2Proof/Config.lean ====
section
/-! DEFINITION. What the spec leaves to the machine around the part: two free values. -/

namespace Sys2Proof

/-- DESIGN CHOICE (log entry 4). The byte that a DRAM read beyond the DRAM fitted to the board returns: "reads beyond it return what
the memory bus gives" (R160). It has no body, so that nothing can be proved of its value. The first argument is a
count that the machine advances at each such read, the second the address. -/
opaque Config.openBus : Nat → Nat → Byte

/-- DESIGN CHOICE (log entry 5). The value of a result field that a record writes at its end although no rule says what it is: the top
used of a record that ended before it took its channel, and the like. The argument is a count that the machine
advances at each such end. It has no body. -/
opaque Config.unstated : Nat → Nat

end Sys2Proof
end

