-- ==== Sys2Proof/Machine/State.lean ====
section
/-! DEFINITION. The state of the RB-640, unit by unit (section 1.2 of the spec), and its value after a cold reset. Timers are
`Option Nat`: `none` is idle, `some n` has n ticks of the running time base left. -/

namespace Sys2Proof.Machine

/-- Why a step stops with a fault. No meaning of this model raises one: the spec gives every command an effect. -/
inductive Fault where
  /-- Raised by no meaning; it stands so that the type has a name for a stop. Safe. -/
  | noFault
  deriving DecidableEq, Repr

/-- Why a step is refused. -/
inductive Refusal where
  /-- Raised by a refused arm of `exec` for a command that has no meaning yet; at present no arm does. Safe. -/
  | notModelled (mnemonic : String)
  deriving DecidableEq, Repr

/-! ## Notes, records and chains (chapters 7 and 8) -/

/-- The ten notes of R140. -/
inductive Note where
  | scanEnd | printEnd | sendEnd | receiveEnd | motionEnd | condition | poolLow | sensor | power | fault
  deriving DecidableEq, Repr

/-- The fault codes of R141 (section 11.3). -/
inductive FaultCode where
  | none | badLink | badState | linkDown | modemTimeout | underrunAbort | receiveHold | startRefused
  deriving DecidableEq, Repr

/-- The three outcomes of a record (R115). -/
inductive RecordOutcome where
  | done | failed | cut
  deriving DecidableEq, Repr

/-- The reason codes of section 7.5. -/
inductive Reason where
  | none | badKind | wrongChain | badField | badTable | cutByHost | engineReset | coverOpen | noDocument | misfeed
  | pageBusy | memoryFull | overrun | paperOut | overheat | noEdge | sensorTimeout | modemTimeout | underrunAbort
  | linkDown | modemFault | waitTimeout
  deriving DecidableEq, Repr

/-- The fifteen record kinds (R117, section 11.4). -/
inductive Kind where
  | scanPage | grayCapture | scanTableLoad | printPage | heatTableLoad | sendBlock | modeChange | conditionWait
  | receiveBuffer | move | moveToEdge | hold | release | sensorWait | motorTableLoad
  deriving DecidableEq, Repr

inductive ChainState where
  | empty | busy | parked | halted
  deriving DecidableEq, Repr

/-- How far the taking of a record of the chain has gone once it is TAKEN (R116, R119). -/
inductive Stage where
  /-- Handed to its engine, which has not acted on it yet. -/
  | handed
  /-- The engine works it. -/
  | working
  /-- Its outcome has been handed over and its end is being written; `park` is cut-pending at that moment (R119). -/
  | ending (outcome : RecordOutcome) (park : Bool)
  deriving DecidableEq, Repr

/-- The copy of a TAKEN record that the chain unit hands its engine (R115). `body` holds the bytes from offset 12. -/
structure Taken where
  addr : Nat
  kind : Kind
  raise : Bool
  body : List Byte
  stage : Stage
  deriving DecidableEq, Repr

/-- Where a follow began (R114, R116): it decides which link is read and what an ended follow leaves. -/
inductive Origin where
  | fromEmpty | fromParked | fromHalted | fromEnd
  deriving DecidableEq, Repr

/-- What the header read found about the record to be taken (R117). -/
inductive Verdict where
  | pass (kind : Kind)
  | reject (reason : Reason)
  deriving DecidableEq, Repr

/-- A follow in progress (R116), by the transfer it waits for. -/
inductive Follow where
  | idle
  | link (origin : Origin)
  | header (link : Nat)
  /-- The first body read; for SCAN TABLE LOAD it is the four flag bytes. -/
  | body (link : Nat) (kind : Kind) (raise : Bool)
  /-- The data parts of a SCAN TABLE LOAD, after its flag bytes. -/
  | parts (link : Nat) (raise : Bool) (flags : List Byte)
  | taken (link : Nat) (verdict : Verdict) (raise : Bool) (body : List Byte)
  deriving DecidableEq, Repr

/-- The on-chip state of one chain (R113), with the copy of its TAKEN record. -/
structure Chain where
  state : ChainState
  cursor : Nat
  cutPending : Bool
  follow : Follow
  taken : Option Taken
  deriving DecidableEq, Repr

structure Chains where
  scan : Chain
  print : Chain
  send : Chain
  receive : Chain
  docMotion : Chain
  paperMotion : Chain
  deriving DecidableEq, Repr

/-- The engine state (R133); `resetting` holds from an ENGINE-RESET until the state becomes STOPPED (R127). -/
inductive EngineState where
  | stopped | running | resetting
  deriving DecidableEq, Repr

/-! ## The memory controller (R136 to R139) -/

/-- The engine-group requesters in the arbiter's fixed order (R138). -/
inductive Requester where
  | boot | scan | print | modem | chain
  deriving DecidableEq, Repr

/-- What a transfer is for. -/
inductive Tag where
  | post | link (c : ChainId) | header (c : ChainId) | body (c : ChainId) | taken (c : ChainId)
  | progress (c : ChainId) | result (c : ChainId) | reason (c : ChainId) | state (c : ChainId) | stopped
  | lineBuffer | grayRow | source | stamp | sendFetch | receive | boot
  deriving DecidableEq, Repr

inductive XferData where
  | read (left : Nat) (got : List Byte)
  | write (left : List Byte)
  deriving DecidableEq, Repr

/-- A transfer: a series of bursts from `addr` on (R136). `note` is raised when the last burst has completed (R140), in the event in
which all that the completion brings comes about. -/
structure Xfer where
  tag : Tag
  addr : Nat
  data : XferData
  note : Option Note
  deriving DecidableEq, Repr

inductive Burst where
  | read (count : Nat)
  | write (bytes : List Byte)
  deriving DecidableEq, Repr

/-- The grant in progress (R138). An engine grant whose request was withdrawn is not `live`: it completes, and no
further burst of its transfer follows. -/
inductive Grant where
  | refresh
  | host
  | engine (r : Requester) (addr : Nat) (burst : Burst) (live : Bool)
  deriving DecidableEq, Repr

structure Dram where
  /-- The bytes that differ from 0, addresses rising (log entry 3). -/
  cells : List Host.Cell
  /-- The DRAM fitted to the board, which the part cannot sense (R160, log entry 4). -/
  fitted : Nat
  installed : Nat
  refreshInterval : Nat
  refreshTimer : Nat
  refreshRow : Nat
  refreshOwed : Nat
  /-- Those of the count owed that came due in step 2 of a sleep entry and wait for its burst refresh (R150). -/
  refreshHeld : Nat
  selfRefresh : Bool
  /-- The arbiter's history bit: the host took the last grant of the pair (R138). -/
  hostTookLast : Bool
  grant : Option Grant
  boot : List Xfer
  scan : List Xfer
  print : List Xfer
  modem : List Xfer
  chain : List Xfer
  /-- Requests asked for after step 2 of a sleep entry; they wait for the wake (R151). -/
  held : List Xfer
  deriving DecidableEq, Repr

/-! ## The host bus interface (R129 to R132) -/

inductive HostResult where
  | idle
  | waiting
  | written
  | data (value : Half)
  | busError
  deriving DecidableEq, Repr

structure HostBus where
  /-- The DRAM cycle held for its grant (R129). -/
  cycle : Option HostCycle
  /-- The host clock in kHz at which the held cycle began (R142); 0 while none is held. -/
  rate : Nat
  /-- How the latest host cycle stands. -/
  result : HostResult
  /-- The 16-byte snapshot store: the block's address and its bytes (R131). -/
  snapshot : Option (Nat × List Byte)
  /-- The address a following read must have to be answered from the snapshot (R131). -/
  follows : Option Nat
  deriving DecidableEq, Repr

/-- The registers that hold a value (R132) and the engine state. -/
structure Registers where
  area : BitVec 10
  notes : BitVec 10
  noteMask : BitVec 10
  wakeMask : BitVec 5
  engine : EngineState
  deriving DecidableEq, Repr

/-! ## The page store manager (chapter 1) -/

inductive BandState where
  | free | filling | full
  deriving DecidableEq, Repr

structure Band where
  state : BandState
  page : Nat
  lines : Nat
  next : Option Nat
  deriving DecidableEq, Repr

inductive PageState where
  | empty | filling | complete
  deriving DecidableEq, Repr

inductive EndCause where
  | none | trailEnd | length | memoryFull | overrun | cut | coverOpen
  deriving DecidableEq, Repr

structure Page where
  state : PageState
  fill : Bool
  print : Bool
  keep : Bool
  lines : Nat
  base : Nat
  first : Option Nat
  last : Option Nat
  count : Nat
  spl : Nat
  cause : EndCause
  deriving DecidableEq, Repr

/-- The changes of an event that are still to be posted, in R4's order: bands, pages, free count (log entry 24). `place` is how many
transfers the CHAIN requester had at the first of them; `low` is an allocation's crossing of the low-water mark (R16). -/
structure Unposted where
  place : Nat
  bands : List Nat
  pages : List Nat
  count : Bool
  low : Bool
  deriving DecidableEq, Repr

structure PageStore where
  poolBase : Nat
  bandCount : Nat
  lowMark : Nat
  bands : List Band
  pages : List Page
  head : Option Nat
  tail : Option Nat
  count : Nat
  /-- Room as last recomputed and handed to the scan unit (R15). -/
  room : Nat
  /-- The model's own: the changes of the event in progress; none between events. -/
  unposted : Option Unposted
  deriving DecidableEq, Repr

/-! ## The motion unit (chapter 2) -/

inductive ChannelState where
  | off | holding | stepping | stopping
  deriving DecidableEq, Repr

inductive Owner where
  | none | chain | scan | print
  deriving DecidableEq, Repr

structure MotorTable where
  patterns : List (BitVec 4)
  stride : Nat
  ramp : List Nat
  holdMs : Nat
  deriving DecidableEq, Repr

/-- A running profile (R23): planned count, steps issued, direction and top used. -/
structure Profile where
  planned : Nat
  issued : Nat
  forward : Bool
  top : Nat
  /-- The end is one an edge set past the stopping steps or an eject set, which a stop request may still shorten (R24, R37, R60). -/
  cuttable : Bool := false
  deriving DecidableEq, Repr

structure Channel where
  state : ChannelState
  owner : Owner
  phase : BitVec 3
  position : Position
  ramp : Nat
  holdTimer : Option Nat
  /-- The tick of the last step; none if the channel has not stepped since cold reset. -/
  lastStep : Option Nat
  /-- Ticks until the next step is issued. -/
  stepDue : Option Nat
  /-- The owner's interval floor in µs (R23). -/
  floor : Option Nat
  profile : Option Profile
  table : MotorTable
  deriving DecidableEq, Repr

inductive EndAction where
  | timedHold | keepHold | off
  deriving DecidableEq, Repr

structure EdgeRequest where
  limit : Nat
  after : Nat
  sensor : Sensor
  target : Bool
  forward : Bool
  top : Nat
  action : EndAction
  deriving DecidableEq, Repr

inductive MotionRequest where
  | move (steps : Nat) (forward : Bool) (top : Nat) (action : EndAction)
  | edge (e : EdgeRequest)
  | hold
  | release
  | wait (sensor : Sensor) (level : Bool) (timeoutMs : Nat)
  | table (t : MotorTable)
  deriving DecidableEq, Repr

inductive MotionPhase where
  | waitOwner
  /-- A MOVE's profile. -/
  | running
  /-- A MOVE TO EDGE before its edge. -/
  | search
  /-- A MOVE TO EDGE after its edge, with the steps issued before it. -/
  | afterEdge (before : Nat)
  /-- SENSOR WAIT since the tick given. -/
  | waiting (since : Nat)
  deriving DecidableEq, Repr

structure MotionJob where
  request : MotionRequest
  phase : MotionPhase
  deriving DecidableEq, Repr

/-- One sensor: raw level, accepted level and debounce count (R38), and the level last posted (R39). -/
structure SensorCell where
  raw : Bool
  accepted : Bool
  count : Option Nat
  posted : Bool
  deriving DecidableEq, Repr

structure Motion where
  d : Channel
  p : Channel
  jobD : Option MotionJob
  jobP : Option MotionJob
  /-- SENSOR WAIT timeouts (R35). -/
  waitD : Option Nat
  waitP : Option Nat
  docPresent : SensorCell
  docRead : SensorCell
  paperPresent : SensorCell
  coverOpen : SensorCell
  hook : SensorCell
  key : SensorCell
  debounceMs : Nat
  noteMask : BitVec 6
  deriving DecidableEq, Repr

/-! ## The scan unit (chapter 3) -/

inductive LampState where
  | off | warming | on | linger
  deriving DecidableEq, Repr

structure Tap where
  start : Nat
  dir : Int
  invert : Bool
  offset : Int
  deriving DecidableEq, Repr

structure Geometry where
  pixelMHz : Nat
  taps : Nat
  elements : Nat
  period : Nat
  window : Nat
  warmMs : Nat
  lingerS : Nat
  tapMap : List Tap
  deriving DecidableEq, Repr

structure Matrix where
  rowMask : Nat
  colMask : Nat
  cells : List Nat
  deriving DecidableEq, Repr

structure ScanTables where
  geometry : Geometry
  matrix : Matrix
  gain : List Nat
  deriving DecidableEq, Repr

/-- The request fields of a SCAN PAGE, the line limit clamped (R52). -/
structure ScanRequest where
  page : Nat
  routePrint : Bool
  routeKeep : Bool
  spl : Nat
  matrixMode : Bool
  threshold : Nat
  trail : Nat
  leadIn : Nat
  top : Nat
  lineLimit : Nat
  feedLimit : Nat
  eject : Nat
  deriving DecidableEq, Repr

/-- The phases of section 3.5, and `runDown`: the deceleration after a stop request that ends capture or the feed (R58, R60). -/
inductive ScanPhase where
  | waitOwner | warmUp | feed | leadIn | capture | paused | trail | runDown | eject | closing
  deriving DecidableEq, Repr

structure ScanJob where
  request : ScanRequest
  phase : ScanPhase
  top : Nat
  captured : Nat
  leadInDone : Nat
  trailDone : Nat
  /-- DOC-READ uncovered during LEAD-IN (R55). -/
  uncovered : Bool
  /-- PAUSED was entered from TRAIL (R57, R58). -/
  pausedFromTrail : Bool
  pauses : Nat
  docSteps : Nat
  created : Bool
  captureStopped : Bool
  cause : EndCause
  outcome : Option (RecordOutcome × Reason)
  deriving DecidableEq, Repr

inductive GrayPhase where
  | waitOwner | warmUp | lines
  deriving DecidableEq, Repr

structure GrayJob where
  addr : Nat
  count : Nat
  stored : Nat
  phase : GrayPhase
  /-- An outcome decided while a row's write was in progress (R62). -/
  outcome : Option (RecordOutcome × Reason)
  deriving DecidableEq, Repr

inductive ScanWork where
  | page (j : ScanJob)
  | gray (j : GrayJob)
  deriving DecidableEq, Repr

structure Scan where
  lamp : LampState
  warmTimer : Option Nat
  lingerTimer : Option Nat
  /-- Ticks to the end of the line period; none while the line timing is stopped (R44). -/
  lineTimer : Option Nat
  tables : ScanTables
  /-- The OCCUPIED line buffers, oldest capture first; the part has two (R49). -/
  buffers : List Line
  grayRow : Option (List Byte)
  captureRef : Position
  bandWait : Option Nat
  /-- The band wait limit in units of 100 ms (R57). -/
  bandLimit : Nat
  work : Option ScanWork
  deriving DecidableEq, Repr

/-! ## The print unit (chapters 4 and 5) -/

inductive SupplyState where
  | off | settling | on | linger
  deriving DecidableEq, Repr

structure HeatTable where
  energy : List Nat
  minPulse : Nat
  maxPulse : Nat
  kHot : Nat
  kWarm : Nat
  dotLimit : Nat
  clockMHz : Nat
  settleMs : Nat
  lingerS : Nat
  tStop : Nat
  tResume : Nat
  overheatS : Nat
  coolMs : Nat
  deriving DecidableEq, Repr

inductive Source where
  | page (id : Nat)
  | lines (addr pitch count : Nat)
  deriving DecidableEq, Repr

structure Stamp where
  area : Nat
  offset : Nat
  count : Nat
  deriving DecidableEq, Repr

/-- The request fields of a PRINT PAGE, the scale clamped (R68). -/
structure PrintRequest where
  source : Source
  stamp : Option Stamp
  scale : Nat
  interval : Nat
  topMargin : Nat
  feedOut : Nat
  top : Nat
  deriving DecidableEq, Repr

inductive PrintPhase where
  | waitOwner | waitPage | supplySettle | topMargin | printing | lineWait | heatWait | feedOut
  deriving DecidableEq, Repr

structure PrintJob where
  request : PrintRequest
  phase : PrintPhase
  interval : Nat
  top : Nat
  outputLines : Nat
  waits : Nat
  overLimit : Nat
  highest : Nat
  /-- The next output line is due and has not started (R75, R77). -/
  due : Bool
  /-- A line is between its start and its completion (R75, R76). -/
  lineActive : Bool
  /-- The tick of the last completed line of this record (R78). -/
  lastDone : Option Nat
  /-- The record has reached FEED-OUT or its profile was cut short; a cut then ends it at rest (R82). -/
  cutAtRest : Bool
  deriving DecidableEq, Repr

/-- The fetch of the next output line (R73). -/
inductive Fetch where
  | idle
  /-- Its source line is not available yet (R74). -/
  | waiting
  /-- Reads in progress: a source read, a stamp read. -/
  | reading (source : Bool) (stamp : Bool)
  deriving DecidableEq, Repr

inductive HeatKind where
  | a | b | c
  deriving DecidableEq, Repr

/-- A strobe group: its first block, its number of blocks, its black dots of A, B and C (R91). -/
structure Group where
  first : Nat
  blocks : Nat
  dotsA : Nat
  dotsB : Nat
  dotsC : Nat
  deriving DecidableEq, Repr

/-- The plan of a line (section 5.4). -/
structure Plan where
  base : Nat
  durA : Nat
  durB : Nat
  durC : Nat
  lineA : Line
  lineB : Line
  lineC : Line
  groups : List Group
  overLines : Nat
  kinds : List HeatKind
  deriving DecidableEq, Repr

/-- The energize sequence of a line (R93). -/
structure Sequence where
  plan : Plan
  /-- Kinds whose load has not begun. -/
  todo : List HeatKind
  shifting : Option HeatKind
  loadTimer : Option Nat
  /-- A kind shifted in, waiting for the energize before it to end. -/
  loaded : Option HeatKind
  firing : Option HeatKind
  /-- The groups still to be strobed for the kind firing; the first is active. -/
  left : List Group
  fireTimer : Option Nat
  /-- The latch pulse of a kind latched since the last tick (R93). -/
  pulse : Bool
  deriving DecidableEq, Repr

structure Print where
  supply : SupplyState
  settleTimer : Option Nat
  lingerTimer : Option Nat
  tempCode : Nat
  tempFlag : Bool
  convTimer : Option Nat
  heat : HeatTable
  h1 : Line
  h2 : Line
  /-- The scaling accumulator: the next line to be formed and its product with the scale (R72). -/
  accLine : Nat
  accProduct : Nat
  sourceStore : Option (Nat × Line)
  lineStore : Option Line
  fetch : Fetch
  printLine : Option Line
  lineStart : Nat
  dueTimer : Option Nat
  overheat : Option Nat
  sequence : Option Sequence
  /-- A record ended OVERHEAT while a conversion was at its end: its address and highest code, to which the sample that falls together
  with the expiry is still offered (R79). -/
  lateSample : Option (Nat × Nat)
  /-- The over-limit line total of the status block (R168). -/
  overTotal : BitVec 32
  work : Option PrintJob
  deriving DecidableEq, Repr

/-! ## The modem link unit (chapter 6) -/

/-- The byte in the send handshake: a block's byte with its record and whether it is the last byte of a LAST block, or fill. -/
structure SendByte where
  byte : Byte
  fill : Bool
  last : Bool
  /-- The acknowledged last byte of a block, whose record has ended DONE with it (R100). -/
  spent : Bool
  deriving DecidableEq, Repr

inductive SendState where
  | idle
  | offered (b : SendByte)
  | retracting (b : SendByte)
  | aborting (count : Nat)
  deriving DecidableEq, Repr

structure SendBlockJob where
  mode : BitVec 4
  addr : Nat
  count : Nat
  last : Bool
  fillOk : Bool
  fillByte : Byte
  /-- Bytes of the block asked for by fetches. -/
  fetched : Nat
  /-- Bytes offered so far; the first offer sets the mode code (R102). -/
  offered : Nat
  sent : Nat
  deriving DecidableEq, Repr

inductive SendWork where
  | block (j : SendBlockJob)
  /-- MODE CHANGE: its code, the frames that carried it to their end, whether the frame in progress began after the taking (R105). -/
  | mode (code : BitVec 4) (frames : Nat) (armed : Bool)
  | wait (mask value : BitVec 4) (since timeoutMs : Nat)
  deriving DecidableEq, Repr

structure ReceiveJob where
  addr : Nat
  length : Nat
  count : Nat
  /-- An outcome decided while a byte was in the latch (R96, R98, R110). -/
  outcome : Option (RecordOutcome × Reason)
  deriving DecidableEq, Repr

structure Modem where
  linkUp : Bool
  linkTimer : Option Nat
  postedUp : Bool
  mode : BitVec 4
  code : BitVec 4
  candidate : Option (BitVec 4)
  postedCode : BitVec 4
  send : SendState
  waited : Nat
  runOpen : Bool
  underrun : Bool
  fillOk : Bool
  fillByte : Byte
  fillCount : Nat
  fillTotal : BitVec 32
  store : List Byte
  fetching : Nat
  /-- An engine reset's abort is running; its end sets mode code 0 unless a MODE CHANGE came (R112). -/
  resetAbort : Bool
  acked : Bool
  latch : Option (Byte × Bool)
  holdActive : Bool
  holdTimer : Option Nat
  waitTimer : Option Nat
  ackLimit : Nat
  fillLimit : Nat
  holdLimitMs : Nat
  /-- The octets of the frame in progress (R95). -/
  frame : Option (Byte × Byte)
  sendWork : Option SendWork
  receiveWork : Option ReceiveJob
  deriving DecidableEq, Repr

/-! ## The power unit (chapter 9) -/

inductive PowerState where
  | active | doze | enteringSleep | sleep | waking
  deriving DecidableEq, Repr

inductive Slot where
  | none | doze | sleep
  deriving DecidableEq, Repr

structure Power where
  state : PowerState
  slot : Slot
  idleTimer : Nat
  idleSeconds : Nat
  wakeAfter : Nat
  /-- Periods of the 32.768 kHz clock left (R152). -/
  wakeTimer : Option Nat
  causes : BitVec 5
  /-- Wake events held during entry, or added during the wake (R151, R153). -/
  pendingCauses : BitVec 5
  /-- Periods left of the oscillator's settling (R153, R155). -/
  oscTimer : Option Nat
  deriving DecidableEq, Repr

/-! ## The boot loader (chapter 10) -/

inductive BootFailure where
  | noRom | badDirectory | sectionCheck | sectionRange | tableFormat
  deriving DecidableEq, Repr

inductive BootResult where
  | none
  | ok (sections : Nat)
  | skipped
  | failure (kind : BootFailure)
  deriving DecidableEq, Repr

/-- The boot state (R156). DESIGN CHOICE (log entry 69): `awaitStrap` is the model's own, beside the four that R156 names. -/
inductive BootState where
  /-- Cold reset has ended and the strap has not been sampled: R156 names no state for that time (log entry 69). -/
  | awaitStrap
  | readingDirectory
  | loading
  | ended
  | failed
  deriving DecidableEq, Repr

/-- A directory entry as read (section 11.6). -/
structure DirEntry where
  kind : Nat
  rom : Nat
  length : Nat
  dest : Nat
  crc : BitVec 16
  deriving DecidableEq, Repr

structure Boot where
  state : BootState
  result : BootResult
  index : Nat
  loaded : Nat
  hostReset : Bool
  crc : BitVec 16
  /-- The directory bytes read so far. -/
  directory : List Byte
  entries : List DirEntry
  /-- A read transaction is in progress, and its next ROM address. -/
  reading : Bool
  /-- Select is still inactive between two transactions (R157). -/
  romGap : Bool
  romAddr : Nat
  /-- Bytes of the section read so far. -/
  got : Nat
  /-- The 16-byte write store, the DRAM address of its first byte and the bytes of it in an asked-for burst (R162). -/
  store : List Byte
  storeAddr : Nat
  asked : Nat
  staging : List Byte
  /-- The FAULT output and the edges of its blink: position in the 2 s period and ticks to the next edge (R165). -/
  faultOut : Bool
  blinkEdge : Nat
  blinkTimer : Option Nat
  deriving DecidableEq, Repr

/-! ## The whole machine -/

structure State where
  dram : Dram
  bus : HostBus
  regs : Registers
  chains : Chains
  store : PageStore
  motion : Motion
  scan : Scan
  print : Print
  modem : Modem
  power : Power
  boot : Boot
  /-- The 1 µs tick count (Conventions, Time), the model's own. -/
  now : Nat
  /-- The counter the free value `Config.openBus` is applied to, the model's own. -/
  freeCount : Nat
  /-- The commands that are waiting, first in first out. -/
  pending : List Instr
  deriving DecidableEq, Repr

/-! ## Updates of one unit -/

def State.updDram (s : State) (f : Dram → Dram) : State := { s with dram := f s.dram }

def State.updBus (s : State) (f : HostBus → HostBus) : State := { s with bus := f s.bus }

def State.updRegs (s : State) (f : Registers → Registers) : State := { s with regs := f s.regs }

def State.updChains (s : State) (f : Chains → Chains) : State := { s with chains := f s.chains }

def State.updStore (s : State) (f : PageStore → PageStore) : State := { s with store := f s.store }

def State.updMotion (s : State) (f : Motion → Motion) : State := { s with motion := f s.motion }

def State.updScan (s : State) (f : Scan → Scan) : State := { s with scan := f s.scan }

def State.updPrint (s : State) (f : Print → Print) : State := { s with print := f s.print }

def State.updModem (s : State) (f : Modem → Modem) : State := { s with modem := f s.modem }

def State.updPower (s : State) (f : Power → Power) : State := { s with power := f s.power }

def State.updBoot (s : State) (f : Boot → Boot) : State := { s with boot := f s.boot }

/-! ## Cold values -/

/-- The cold default motor table of both channels (R21). -/
def MotorTable.cold : MotorTable :=
  { patterns := [0b1000#4, 0b1100#4, 0b0100#4, 0b0110#4, 0b0010#4, 0b0011#4, 0b0001#4, 0b1001#4]
    stride := 2, ramp := [5000], holdMs := 500 }

def Channel.cold : Channel :=
  { state := .off, owner := .none, phase := 0, position := 0, ramp := 0, holdTimer := none, lastStep := none
    stepDue := none, floor := none, profile := none, table := MotorTable.cold }

/-- The cold default scan tables (R48). -/
def ScanTables.cold : ScanTables :=
  { geometry :=
      { pixelMHz := 2, taps := 1, elements := 1728, period := 5000, window := 0, warmMs := 1000, lingerS := 10
        tapMap := [{ start := 0, dir := 1, invert := false, offset := 0 }] }
    matrix := { rowMask := 0, colMask := 0, cells := List.replicate 64 128 }
    gain := List.replicate 1728 256 }

/-- The cold default heat table (R67, R86). -/
def HeatTable.cold : HeatTable :=
  { energy := [2000, 1920, 1840, 1760, 1680, 1600, 1520, 1440, 1360, 1280, 1200, 1120, 1040, 960, 880, 800]
    minPulse := 300, maxPulse := 2000, kHot := 10, kWarm := 13, dotLimit := 432, clockMHz := 4
    settleMs := 20, lingerS := 30, tStop := 200, tResume := 180, overheatS := 60, coolMs := 50 }

def Chain.cold : Chain :=
  { state := .empty, cursor := 0, cutPending := false, follow := .idle, taken := none }

def Chains.cold : Chains :=
  { scan := .cold, print := .cold, send := .cold, receive := .cold, docMotion := .cold, paperMotion := .cold }

/-- The page store without a pool (R18, R19). DESIGN CHOICE (log entry 34): R19 gives no value for the copies of pool base, B and
low-water mark after a cold reset; they are 0. -/
def PageStore.cold : PageStore :=
  { poolBase := 0, bandCount := 0, lowMark := 0, bands := [], pages := [], head := none, tail := none, count := 0
    room := 0, unposted := none }

/-- A sensor at its second level (log entry 2: the pins at power-on). -/
def SensorCell.cold : SensorCell := { raw := false, accepted := false, count := none, posted := false }

def Motion.cold : Motion :=
  { d := .cold, p := .cold, jobD := none, jobP := none, waitD := none, waitP := none
    docPresent := .cold, docRead := .cold, paperPresent := .cold, coverOpen := .cold, hook := .cold, key := .cold
    debounceMs := 10, noteMask := 0 }

def Scan.cold : Scan :=
  { lamp := .off, warmTimer := none, lingerTimer := none, lineTimer := none, tables := .cold, buffers := []
    grayRow := none, captureRef := 0, bandWait := none, bandLimit := 0, work := none }

def Print.cold : Print :=
  { supply := .off, settleTimer := none, lingerTimer := none, tempCode := 0, tempFlag := false, convTimer := none
    heat := .cold, h1 := Line.white, h2 := Line.white, accLine := 0, accProduct := 0, sourceStore := none
    lineStore := none, fetch := .idle, printLine := none, lineStart := 0, dueTimer := none, overheat := none
    sequence := none, lateSample := none, overTotal := 0, work := none }

def Modem.cold : Modem :=
  { linkUp := false, linkTimer := none, postedUp := false, mode := 0, code := 0, candidate := none, postedCode := 0
    send := .idle, waited := 0, runOpen := false, underrun := false, fillOk := false, fillByte := 0, fillCount := 0
    fillTotal := 0, store := [], fetching := 0, resetAbort := false, acked := false, latch := none
    holdActive := false, holdTimer := none, waitTimer := none, ackLimit := 1, fillLimit := 1, holdLimitMs := 0
    frame := none, sendWork := none, receiveWork := none }

def Power.cold : Power :=
  { state := .active, slot := .none, idleTimer := 0, idleSeconds := 0, wakeAfter := 0, wakeTimer := none, causes := 0
    pendingCauses := 0, oscTimer := none }

def Boot.cold : Boot :=
  { state := .awaitStrap, result := .none, index := 0, loaded := 0, hostReset := true, crc := 0xFFFF#16
    directory := [], entries := [], reading := false, romGap := false, romAddr := 0, got := 0, store := [], storeAddr := 0, asked := 0
    staging := [], faultOut := false, blinkEdge := 0, blinkTimer := none }

/-- The registers after a cold reset (R132, R135). -/
def Registers.cold : Registers :=
  { area := 0, notes := 0, noteMask := 0x3FF#10, wakeMask := 0, engine := .stopped }

def HostBus.cold : HostBus := { cycle := none, rate := 0, result := .idle, snapshot := none, follows := none }

/-- The memory controller after a cold reset (R136 to R139), over the cells and the fitted size given. DESIGN CHOICE (log entry 42): the
first tick is the first the refresh timer counts. -/
def Dram.cold (cells : List Host.Cell) (fitted : Nat) : Dram :=
  { cells := cells, fitted := fitted, installed := 1048576, refreshInterval := 15, refreshTimer := 15
    refreshRow := 0, refreshOwed := 0, refreshHeld := 0, selfRefresh := false, hostTookLast := true, grant := none
    boot := [], scan := [], print := [], modem := [], chain := [], held := [] }

/-- The machine right after a power-on reset: every block at the cold values its chapter gives, HOST-RESET asserted, the
strap not sampled yet, DRAM with nothing listed. -/
def State.reset : State :=
  { dram := Dram.cold [] 4194304
    bus := .cold, regs := .cold, chains := .cold, store := .cold, motion := .cold, scan := .cold, print := .cold
    modem := .cold, power := .cold, boot := .cold, now := 0, freeCount := 0, pending := [] }

end Sys2Proof.Machine
end

