-- ==== Sys2Proof/Machine/Ops.lean ====
section
/-! DEFINITION. The named operations over DRAM, requests, notes and records that every unit uses. -/

namespace Sys2Proof.Machine

/-! ## DRAM bytes (log entry 3: an unlisted address reads 0) -/

/-- The byte the cells hold at an address; an address not listed reads 0. -/
def cellsRead : List Host.Cell → Nat → Byte
  | [], _ => 0
  | (k, v) :: rest, a => if a = k then v else cellsRead rest a

/-- Writing one byte, keeping the canonical form. -/
def cellsWrite : List Host.Cell → Nat → Byte → List Host.Cell
  | [], a, b => if b = 0 then [] else [(a, b)]
  | (k, v) :: rest, a, b =>
    if a < k then (if b = 0 then (k, v) :: rest else (a, b) :: (k, v) :: rest)
    else if a = k then (if b = 0 then rest else (a, b) :: rest)
    else (k, v) :: cellsWrite rest a b

/-- All addresses of the cells lie above `lo`. -/
def cellsAbove (lo : Nat) : List Host.Cell → Bool
  | [] => true
  | (k, _) :: rest => decide (lo < k) && cellsAbove lo rest

/-- The canonical form: addresses strictly rising, no entry that reads as an unlisted address does. -/
def cellsWf : List Host.Cell → Bool
  | [] => true
  | (k, v) :: rest => decide (v ≠ 0) && cellsAbove k rest && cellsWf rest

def Memory.wf (s : State) : Bool := cellsWf s.dram.cells

/-- A write beyond the fitted DRAM is lost (R160). -/
def Dram.poke (d : Dram) (a : Nat) (b : Byte) : Dram :=
  if a < d.fitted then { d with cells := cellsWrite d.cells a b } else d

def Dram.pokeAll (d : Dram) (a : Nat) : List Byte → Dram
  | [] => d
  | b :: rest => (d.poke a b).pokeAll (a + 1) rest

/-- A read beyond the fitted DRAM returns what the memory bus gives (R160). -/
def readByte (s : State) (a : Nat) : Byte :=
  if a < s.dram.fitted then cellsRead s.dram.cells a else Config.openBus s.freeCount a

def readBytes (s : State) (a : Nat) : Nat → List Byte
  | 0 => []
  | n + 1 => readByte s a :: readBytes s (a + 1) n

def writeBytes (s : State) (a : Nat) (bytes : List Byte) : State := s.updDram fun d => d.pokeAll a bytes

/-- The engine group has taken the last grant of the pair (R138). -/
def engineTook (s : State) : State := s.updDram fun d => { d with hostTookLast := false }

/-- A write that the part makes within a step of its own, for the engine group (R138, log entry 9). -/
def engineWrite (a : Nat) (bytes : List Byte) (s : State) : State := engineTook (writeBytes s a bytes)

/-! ## Byte order: big-endian everywhere (R167) -/

def beNat (bytes : List Byte) : Nat := bytes.foldl (fun n b => n * 256 + b.toNat) 0

def be8 (n : Nat) : List Byte := [BitVec.ofNat 8 n]

def be16 (n : Nat) : List Byte := [BitVec.ofNat 8 (n / 256), BitVec.ofNat 8 n]

def be32 (n : Nat) : List Byte :=
  [BitVec.ofNat 8 (n / 16777216), BitVec.ofNat 8 (n / 65536), BitVec.ofNat 8 (n / 256), BitVec.ofNat 8 n]

/-- The field of `size` bytes at an offset. -/
def field (bytes : List Byte) (offset size : Nat) : Nat := beNat ((bytes.drop offset).take size)

/-- An address field: its upper byte is ignored (R167). -/
def addrField (bytes : List Byte) (offset : Nat) : Nat := field bytes offset 4 % 16777216

/-- A signed byte (R167). -/
def signedByte (n : Nat) : Int := if n < 128 then n else (n : Int) - 256

/-- The 216 bytes of a line, dot 0 first. -/
def lineBytes (l : Line) : List Byte := (List.range 216).map fun i => (l >>> (8 * (215 - i))).setWidth 8

def lineOfBytes (bytes : List Byte) : Line := BitVec.ofNat 1728 (beNat bytes)

/-- The line whose dot p is the p-th Boolean. -/
def lineOfDots (dots : List Bool) : Line :=
  BitVec.ofNat 1728 (dots.foldl (fun n b => n * 2 + (if b then 1 else 0)) 0)

def ceilDiv (a b : Nat) : Nat := (a + b - 1) / b

/-! ## Codes of the control area and the records (sections 7.5, 11.2 to 11.4) -/

def Note.index : Note → Nat
  | .scanEnd => 0 | .printEnd => 1 | .sendEnd => 2 | .receiveEnd => 3 | .motionEnd => 4
  | .condition => 5 | .poolLow => 6 | .sensor => 7 | .power => 8 | .fault => 9

def Note.bit (n : Note) : BitVec 10 := 1#10 <<< n.index

def FaultCode.code : FaultCode → Nat
  | .none => 0 | .badLink => 1 | .badState => 2 | .linkDown => 3 | .modemTimeout => 4 | .underrunAbort => 5
  | .receiveHold => 6 | .startRefused => 7

def RecordOutcome.code : RecordOutcome → Nat
  | .done => 2 | .failed => 3 | .cut => 4

def Reason.code : Reason → Nat
  | .none => 0 | .badKind => 1 | .wrongChain => 2 | .badField => 3 | .badTable => 4 | .cutByHost => 5
  | .engineReset => 6 | .coverOpen => 7 | .noDocument => 8 | .misfeed => 9 | .pageBusy => 10 | .memoryFull => 11
  | .overrun => 12 | .paperOut => 13 | .overheat => 14 | .noEdge => 15 | .sensorTimeout => 16 | .modemTimeout => 17
  | .underrunAbort => 18 | .linkDown => 19 | .modemFault => 20 | .waitTimeout => 21

def ChainState.code : ChainState → Nat
  | .empty => 0 | .busy => 1 | .parked => 2 | .halted => 3

def LampState.code : LampState → Nat
  | .off => 0 | .warming => 1 | .on => 2 | .linger => 3

def SupplyState.code : SupplyState → Nat
  | .off => 0 | .settling => 1 | .on => 2 | .linger => 3

def ChannelState.code : ChannelState → Nat
  | .off => 0 | .holding => 1 | .stepping => 2 | .stopping => 3

def Owner.code : Owner → Nat
  | .none => 0 | .chain => 1 | .scan => 2 | .print => 3

def BandState.code : BandState → Nat
  | .free => 0 | .filling => 1 | .full => 2

def PageState.code : PageState → Nat
  | .empty => 0 | .filling => 1 | .complete => 2

def EndCause.code : EndCause → Nat
  | .none => 0 | .trailEnd => 1 | .length => 2 | .memoryFull => 3 | .overrun => 4 | .cut => 5 | .coverOpen => 6

/-! ## Chains, channels and sensors by name -/

def chainIndex : ChainId → Nat
  | .scan => 0 | .print => 1 | .send => 2 | .receive => 3 | .docMotion => 4 | .paperMotion => 5

def allChains : List ChainId := [.scan, .print, .send, .receive, .docMotion, .paperMotion]

def Chains.get (cs : Chains) : ChainId → Chain
  | .scan => cs.scan | .print => cs.print | .send => cs.send | .receive => cs.receive
  | .docMotion => cs.docMotion | .paperMotion => cs.paperMotion

def Chains.set (cs : Chains) (c : ChainId) (v : Chain) : Chains :=
  match c with
  | .scan => { cs with scan := v }
  | .print => { cs with print := v }
  | .send => { cs with send := v }
  | .receive => { cs with receive := v }
  | .docMotion => { cs with docMotion := v }
  | .paperMotion => { cs with paperMotion := v }

def State.chain (s : State) (c : ChainId) : Chain := s.chains.get c

def State.updChain (s : State) (c : ChainId) (f : Chain → Chain) : State :=
  s.updChains fun cs => cs.set c (f (cs.get c))

/-- The motion chain of a channel (R26). -/
def motionChain : ChannelId → ChainId
  | .d => .docMotion | .p => .paperMotion

def State.channel (s : State) : ChannelId → Channel
  | .d => s.motion.d | .p => s.motion.p

def State.updChannel (s : State) (c : ChannelId) (f : Channel → Channel) : State :=
  s.updMotion fun m => match c with
    | .d => { m with d := f m.d }
    | .p => { m with p := f m.p }

def State.job (s : State) : ChannelId → Option MotionJob
  | .d => s.motion.jobD | .p => s.motion.jobP

def State.setJob (s : State) (c : ChannelId) (j : Option MotionJob) : State :=
  s.updMotion fun m => match c with
    | .d => { m with jobD := j }
    | .p => { m with jobP := j }

def State.waitTimer (s : State) : ChannelId → Option Nat
  | .d => s.motion.waitD | .p => s.motion.waitP

def State.setWaitTimer (s : State) (c : ChannelId) (t : Option Nat) : State :=
  s.updMotion fun m => match c with
    | .d => { m with waitD := t }
    | .p => { m with waitP := t }

def sensorIndex : Sensor → Nat
  | .docPresent => 0 | .docRead => 1 | .paperPresent => 2 | .coverOpen => 3 | .hook => 4 | .key => 5

def allSensors : List Sensor := [.docPresent, .docRead, .paperPresent, .coverOpen, .hook, .key]

def State.sensor (s : State) : Sensor → SensorCell
  | .docPresent => s.motion.docPresent | .docRead => s.motion.docRead | .paperPresent => s.motion.paperPresent
  | .coverOpen => s.motion.coverOpen | .hook => s.motion.hook | .key => s.motion.key

def State.updSensor (s : State) (n : Sensor) (f : SensorCell → SensorCell) : State :=
  s.updMotion fun m => match n with
    | .docPresent => { m with docPresent := f m.docPresent }
    | .docRead => { m with docRead := f m.docRead }
    | .paperPresent => { m with paperPresent := f m.paperPresent }
    | .coverOpen => { m with coverOpen := f m.coverOpen }
    | .hook => { m with hook := f m.hook }
    | .key => { m with key := f m.key }

/-- The accepted level of a sensor: true is the first level of its row in R38. -/
def State.level (s : State) (n : Sensor) : Bool := (s.sensor n).accepted

/-- The sensor levels field: one bit per sensor (section 11.3), by a projection of the sensors. DESIGN CHOICE (log
entry 65): bits 7 and 6 are 0. -/
def levelBits (s : State) (f : SensorCell → Bool) : Nat :=
  (if f (s.sensor .docPresent) then 1 else 0) + (if f (s.sensor .docRead) then 2 else 0)
    + (if f (s.sensor .paperPresent) then 4 else 0) + (if f (s.sensor .coverOpen) then 8 else 0)
    + (if f (s.sensor .hook) then 16 else 0) + (if f (s.sensor .key) then 32 else 0)

/-! ## Notes and requests -/

/-- Raising a note sets its bit whatever NOTEMASK holds (R140). -/
def raiseNote (n : Note) (s : State) : State := s.updRegs fun r => { r with notes := r.notes ||| n.bit }

def raiseIf (n : Option Note) (s : State) : State :=
  match n with
  | none => s
  | some n => raiseNote n s

/-- The main oscillator is stopped or not settled, so the 32.768 kHz clock times the part (R142). -/
def slowBase (s : State) : Bool := decide (s.power.state = .sleep) || s.power.oscTimer.isSome

/-- The engine state reads RUNNING until an engine reset has completed (R127, R132). -/
def State.isRunning (s : State) : Bool := decide (s.regs.engine ≠ .stopped)

/-- Requests asked now wait for the wake's burst refresh (R150, R151). -/
def requestsHeld (s : State) : Bool :=
  match s.power.state with
  | .active | .doze => false
  | .enteringSleep => s.bus.cycle.isNone
  | .sleep | .waking => true

def Dram.queue (d : Dram) : Requester → List Xfer
  | .boot => d.boot | .scan => d.scan | .print => d.print | .modem => d.modem | .chain => d.chain

def Dram.setQueue (d : Dram) (r : Requester) (q : List Xfer) : Dram :=
  match r with
  | .boot => { d with boot := q }
  | .scan => { d with scan := q }
  | .print => { d with print := q }
  | .modem => { d with modem := q }
  | .chain => { d with chain := q }

/-- A unit asks its requester for a transfer (R136, R138). Only the CHAIN requester is asked while requests are held. -/
def ask (r : Requester) (x : Xfer) (s : State) : State :=
  if requestsHeld s then s.updDram fun d => { d with held := d.held ++ [x] }
  else s.updDram fun d => d.setQueue r (d.queue r ++ [x])

def askWrite (tag : Tag) (addr : Nat) (bytes : List Byte) (s : State) : State :=
  ask .chain { tag := tag, addr := addr, data := .write bytes, note := none } s

def askRead (r : Requester) (tag : Tag) (addr count : Nat) (s : State) : State :=
  ask r { tag := tag, addr := addr, data := .read count [], note := none } s

/-- The base of the control area (R168). -/
def areaBase (s : State) : Nat := s.regs.area.toNat * 4096

def anchorOffset (c : ChainId) : Nat := 64 + 16 * (chainIndex c)

/-- A write to the control area with the note that follows it (R140). -/
def areaWrite (s : State) (offset : Nat) (bytes : List Byte) (note : Option Note) : Xfer :=
  { tag := .post, addr := areaBase s + offset, data := .write bytes, note := note }

/-- The transfers of a queue whose first burst is the grant in progress, and the others. -/
def splitGranted (d : Dram) (r : Requester) : List Xfer × List Xfer :=
  match d.grant with
  | some (.engine r' _ _ true) => if r' = r then ((d.queue r).take 1, (d.queue r).drop 1) else ([], d.queue r)
  | _ => ([], d.queue r)

/-- The write of STOPPED that ends an engine reset is the grant in progress (R127). -/
def stoppedGranted (s : State) : Bool := (splitGranted s.dram .chain).1.any fun x => decide (x.tag = .stopped)

/-- The status block is written at a change of value: while the engine is RUNNING, the time of an engine reset included (R127, R141).
DESIGN CHOICE (log entry 46): not once the write of STOPPED has its grant, nor where the write would wait for a wake behind it. -/
def posting (s : State) : Bool :=
  match s.regs.engine with
  | .running => true
  | .resetting => !requestsHeld s && !stoppedGranted s
  | .stopped => false

/-- A write that is made before a waiting write of STOPPED: the last one of an engine reset (R127, R141). -/
def beforeStopped (x : Xfer) : List Xfer → List Xfer
  | [] => [x]
  | y :: rest => if y.tag = .stopped then x :: y :: rest else y :: beforeStopped x rest

/-- A post to the control area (R4, R141); its note follows the write (R140). DESIGN CHOICE (log entry 46): during an engine reset it is
made before the write of STOPPED. -/
def post (offset : Nat) (bytes : List Byte) (note : Option Note) (s : State) : State :=
  if posting s then
    if s.regs.engine = .running then ask .chain (areaWrite s offset bytes note) s
    else s.updDram fun d => { d with chain := beforeStopped (areaWrite s offset bytes note) d.chain }
  else s

/-- A field of the status block (section 11.3). -/
def postStatus (offset : Nat) (bytes : List Byte) (s : State) : State := post (160 + offset) bytes none s

/-- The last fault code is written before FAULT is raised (R141). -/
def postFault (code : FaultCode) (s : State) : State := post 161 (be8 code.code) (some .fault) s

/-- CURSOR and CHAIN STATE of an anchor, as one burst (R114), an engine reset's ends included (R127). DESIGN CHOICE (log entry
64): the upper byte of CURSOR is 0. -/
def postAnchor (c : ChainId) (s : State) : State :=
  let ch := s.chain c
  if s.isRunning then ask .chain (areaWrite s (anchorOffset c + 4) (be32 ch.cursor ++ be8 ch.state.code) none) s else s

/-- A progress value replaces one of the same record that is still waiting (R121). -/
def replaceProgress (c : ChainId) (bytes : List Byte) : List Xfer → List Xfer × Bool
  | [] => ([], false)
  | x :: rest =>
    if x.tag = .progress c then ({ x with data := .write bytes } :: rest, true)
    else
      let (rest', hit) := replaceProgress c bytes rest
      (x :: rest', hit)

/-- Hands a progress value to the chain unit (R121). -/
def postProgress (c : ChainId) (offset value : Nat) (s : State) : State :=
  match (s.chain c).taken with
  | none => s
  | some t =>
    let (granted, waiting) := splitGranted s.dram .chain
    let (waiting', hit) := replaceProgress c (be16 value) waiting
    if hit then s.updDram fun d => { d with chain := granted ++ waiting' }
    else askWrite (.progress c) (t.addr + offset) (be16 value) s

/-! ## Withdrawing requests (R138) -/

/-- A grant of the requester begun for a withdrawn request completes without a further burst. -/
def deaden (r : Requester) (g : Option Grant) : Option Grant :=
  match g with
  | some (.engine r' a b live) => some (.engine r' a b (live && decide (r' ≠ r)))
  | g => g

/-- Withdraws every request of an engine requester; a grant begun for one completes. -/
def withdrawAll (r : Requester) (s : State) : State :=
  s.updDram fun d => { d.setQueue r [] with grant := deaden r d.grant }

/-- Withdraws the waiting requests of a requester that `drop` names; a grant begun for one completes. -/
def withdrawFrom (r : Requester) (drop : Tag → Bool) (s : State) : State :=
  s.updDram fun d =>
    let (granted, waiting) := splitGranted d r
    let kept := waiting.filter fun x => !drop x.tag
    match granted with
    | [] => d.setQueue r kept
    | g :: _ =>
      if drop g.tag then { d.setQueue r kept with grant := deaden r d.grant } else d.setQueue r (g :: kept)

/-! ## Power return and record ends -/

/-- The return from DOZE to ACTIVE (R148): the idle timer restarts, no note is raised. -/
def toActive (s : State) : State :=
  if s.power.state = .doze then s.updPower fun p => { p with state := .active, idleTimer := 0 } else s

/-- The writes of an end: result fields and result word, REASON, STATE, in that order (R119). DESIGN CHOICE (log entry 59): the fields are
written in the order of `results`, by rising offset, the result word last. -/
def askEndWrites (c : ChainId) (t : Taken) (o : RecordOutcome) (r : Reason) (results : List (Nat × List Byte))
    (s : State) : State :=
  let s := results.foldl (fun s f => askWrite (.result c) (t.addr + f.1) f.2 s) s
  let s := askWrite (.reason c) (t.addr + 7) (be8 r.code) s
  askWrite (.state c) (t.addr + 6) (be8 o.code) s

/-- An engine hands the chain unit the outcome, reason and results of the chain's TAKEN record (R119). Ending a TAKEN
record returns the part from DOZE (R148). A record already ending keeps its end. -/
def endRecord (c : ChainId) (o : RecordOutcome) (r : Reason) (results : List (Nat × List Byte)) (s : State) : State :=
  match (s.chain c).taken with
  | none => s
  | some t =>
    match t.stage with
    | .ending _ _ => s
    | _ =>
      let s := askEndWrites c t o r results (toActive s)
      s.updChain c fun ch => { ch with taken := some { t with stage := .ending o ch.cutPending } }

/-- The result word at offset 8 (R114 table of section 7.2). -/
def resultWord (n : Nat) : Nat × List Byte := (8, be32 n)

/-- The chain's TAKEN record whose outcome has not been handed over, if any. -/
def inWork (s : State) (c : ChainId) : Option Taken :=
  match (s.chain c).taken with
  | some t => match t.stage with
    | .ending _ _ => none
    | _ => some t
  | none => none

/-- The record just handed to the chain's engine, of the kind named, which the engine has not acted on. -/
def handed (s : State) (c : ChainId) (k : Kind) : Option Taken :=
  match (s.chain c).taken with
  | some t => if t.stage = .handed ∧ t.kind = k then some t else none
  | none => none

def setWorking (c : ChainId) (s : State) : State :=
  s.updChain c fun ch => { ch with taken := ch.taken.map fun t => { t with stage := .working } }

/-- Whole ms since a tick (log entry 12). -/
def msSince (s : State) (t : Nat) : Nat := (s.now - t) / 1000

/-- The value of a result field that no rule states (log entry 5), and the state with the free value's counter advanced. -/
def unstated (s : State) : Nat := Config.unstated s.freeCount

def bumpFree (s : State) : State := { s with freeCount := s.freeCount + 1 }

end Sys2Proof.Machine
end

