-- ==== Sys2Proof/Machine/Channel.lean ====
section
/-! DEFINITION. A stepper channel: outputs, steps, profiles, stop requests, rest and owners (R20 to R29). -/

namespace Sys2Proof.Machine

def Channel.moving (c : Channel) : Bool := decide (c.state = .stepping) || decide (c.state = .stopping)

/-- R of the motor table: the number of its ramp entries (R21). -/
def MotorTable.entries (t : MotorTable) : Nat := t.ramp.length

/-- The top used: clamped to R − 1 (R23). -/
def MotorTable.clampTop (t : MotorTable) (top : Nat) : Nat := min top (t.entries - 1)

def MotorTable.interval (t : MotorTable) (x : Nat) : Nat := t.ramp.getD x 0

/-- An interval lengthened by the owner's floor (R23). -/
def Channel.floored (c : Channel) (interval : Nat) : Nat :=
  match c.floor with
  | none => interval
  | some f => max interval f

/-- D(x): the steps a stop request leaves from index x (R24). -/
def stopSteps (x : Nat) : Nat := if x = 0 then 0 else x + 1

/-- The wait before step 1 of a profile started at tick `now` (R23). DESIGN CHOICE (log entry 49): time in SLEEP does not count toward it. -/
def Channel.startWait (now : Nat) (c : Channel) : Nat :=
  match c.lastStep with
  | none => 0
  | some t => t + c.floored (c.table.interval 0) - now

/-- Starts a profile of `n` steps: STEPPING with x = 0, the hold timer idle, step 1 due at once or after the wait (R23). -/
def Channel.begin (now n : Nat) (forward : Bool) (top : Nat) (c : Channel) : Channel :=
  { c with
    state := .stepping, ramp := 0, holdTimer := none
    profile := some { planned := n, issued := 0, forward := forward, top := c.table.clampTop top }
    stepDue := some (c.startWait now) }

/-- The ramp index after step j of n (R23). -/
def nextIndex (x top n j : Nat) (withhold : Bool) : Nat :=
  if j ≤ 1 ∨ n ≤ j then 0
  else if withhold then min x (n - j - 1)
  else min (min (x + 1) top) (n - j - 1)

/-- Issues one step of the running profile at tick `now` (R22, R23). At step n the channel has reached rest: it keeps its profile
until the owner decides what comes next. -/
def Channel.issue (now : Nat) (withhold : Bool) (c : Channel) : Channel :=
  match c.profile with
  | none => c
  | some pr =>
    let j := pr.issued + 1
    let x := nextIndex c.ramp pr.top pr.planned j withhold
    let stride := BitVec.ofNat 3 c.table.stride
    { c with
      phase := if pr.forward then c.phase + stride else c.phase - stride
      position := if pr.forward then c.position + 1 else c.position - 1
      lastStep := some now
      ramp := x
      profile := some { pr with issued := j }
      stepDue := if pr.planned ≤ j then none else some (c.floored (c.table.interval x)) }

/-- The profile has issued its last planned step. -/
def Channel.resting (c : Channel) : Bool :=
  match c.profile with
  | none => true
  | some pr => decide (pr.planned ≤ pr.issued)

/-- Steps issued by the running profile. -/
def Channel.issued (c : Channel) : Nat :=
  match c.profile with
  | none => 0
  | some pr => pr.issued

/-- The end of the run is fixed at `extra` steps past the last one; the channel becomes STOPPING (R24, R32, R58). `cuttable` says that a
later stop request may still shorten it (R37, R60). -/
def Channel.runOut (extra : Nat) (cuttable : Bool) (c : Channel) : Channel :=
  match c.profile with
  | none => c
  | some pr =>
    { c with
      state := .stopping
      profile := some { pr with planned := pr.issued + extra, cuttable := cuttable }
      stepDue := if extra = 0 then none else c.stepDue }

/-- The last step of a run whose end a stop request fixed is left. -/
def Channel.oneLeft (c : Channel) : Bool :=
  match c.profile with
  | none => false
  | some pr => decide (pr.planned = pr.issued + 1) && !pr.cuttable

/-- A stop request (R24): no effect on a channel at rest. A run that an edge made longer, or an eject, it shortens to the stopping steps
(R37, R60). DESIGN CHOICE (log entry 48): under STOPPING after another stop request, with index 0 and one step left, the planned count
stays, as a request made again gives the same count. -/
def Channel.stopRequest (c : Channel) : Channel :=
  if ¬ c.moving then c
  else if c.state = .stopping ∧ c.ramp = 0 ∧ c.oneLeft then c
  else c.runOut (stopSteps c.ramp) false

/-- The channel is at rest in the state named, without a profile. -/
def Channel.settle (st : ChannelState) (hold : Option Nat) (c : Channel) : Channel :=
  { c with state := st, ramp := 0, profile := none, stepDue := none, holdTimer := hold }

/-- TIMED-HOLD: the table's hold ms, and OFF at once with 0 (R25). -/
def Channel.timedHold (c : Channel) : Channel :=
  if c.table.holdMs = 0 then c.settle .off none else c.settle .holding (some (c.table.holdMs * 1000))

/-- The end action of a motion record (R25). -/
def Channel.endAction (a : EndAction) (c : Channel) : Channel :=
  match a with
  | .timedHold => c.timedHold
  | .keepHold => c.settle .holding none
  | .off => c.settle .off none

/-- The owner's record has ended: NONE, and a HOLDING channel begins its timed hold (R29). -/
def Channel.disown (c : Channel) : Channel :=
  let c := { c with owner := .none, floor := none }
  if c.state = .holding then c.timedHold else c

/-- Forced OFF without deceleration: x keeps its value (R40). -/
def Channel.forceOff (c : Channel) : Channel :=
  { c with state := .off, holdTimer := none, profile := none, stepDue := none }

/-- Engine reset of a channel (R41): p, x, the table and the time of the last step are kept. -/
def Channel.engineReset (c : Channel) : Channel := { c.forceOff with position := 0, owner := .none, floor := none }

/-- A channel an engine may take (R28): at rest, owned by no engine. -/
def Channel.claimable (c : Channel) : Bool :=
  !c.moving && (decide (c.owner = .none) || decide (c.owner = .chain))

/-- An engine takes the channel (R28): state, p, position and last step stay. -/
def Channel.claim (o : Owner) (floor : Option Nat) (c : Channel) : Channel :=
  { c with owner := o, holdTimer := none, floor := floor }

/-! ## Posting (R30) -/

def channelIndex : ChannelId → Nat
  | .d => 0 | .p => 1

/-- Replaces a channel and posts each of position, state and owner whose value changed (R30), in that order: DESIGN CHOICE (log entry 50). -/
def putChannel (c : ChannelId) (new : Channel) (s : State) : State :=
  let old := s.channel c
  let i := channelIndex c
  let s := s.updChannel c fun _ => new
  let s := if new.position = old.position then s else postStatus (16 + 4 * i) (be32 new.position.toNat) s
  let s := if new.state = old.state then s else postStatus (11 + i) (be8 new.state.code) s
  if new.owner = old.owner then s else postStatus (13 + i) (be8 new.owner.code) s

/-- The end of a run is fixed: with steps left the channel is STOPPING; with none it is at rest at once, STOPPING is neither entered nor
posted, and `rest` says what follows (R24, R30, R32). -/
def putRunOut (c : ChannelId) (new : Channel) (rest : State → State) (s : State) : State :=
  if new.resting then rest (s.updChannel c fun _ => { new with state := (s.channel c).state }) else putChannel c new s

end Sys2Proof.Machine
end

