-- ==== Sys2Proof/Machine/Flags.lean ====
section
/-! DEFINITION. The conditions and output levels computed from the state: the interrupt line, quiet, idle-for-sleep, the host clock, the
channel outputs. -/

namespace Sys2Proof.Machine

/-- The interrupt line: some pending note is unmasked (R140). -/
def interruptLine (s : State) : Bool := decide (s.regs.notes &&& ~~~s.regs.noteMask ≠ 0)

/-- The clock in kHz at which the host's next cycle runs: 12 MHz in ACTIVE, 1.5 MHz in DOZE, else stopped (R142); stopped too while the
oscillator settles after a cold reset (R155). -/
def nextClock (s : State) : Nat :=
  if s.power.oscTimer.isSome then 0
  else match s.power.state with
  | .active => 12000
  | .doze => 1500
  | .enteringSleep | .sleep | .waking => 0

/-- The host clock in kHz: a DRAM cycle held for its grant completes at the rate it began at (R142, R147, R148, R150). -/
def hostClock (s : State) : Nat :=
  match s.bus.cycle with
  | some _ => s.bus.rate
  | none => nextClock s

/-- The host makes cycles: its clock runs on and HOST-RESET is released (R129, R142). -/
def hostRuns (s : State) : Bool := !s.boot.hostReset && decide (0 < nextClock s)

/-- The enable, phase and current-level outputs of a channel, the last true for HIGH (R20). -/
def channelOutputs (c : Channel) : Bool × BitVec 4 × Bool :=
  match c.state with
  | .off => (false, 0, false)
  | .holding => (true, c.table.patterns.getD c.phase.toNat 0, false)
  | .stepping | .stopping => (true, c.table.patterns.getD c.phase.toNat 0, true)

/-- The lamp control output (R42) and the head supply enable output (R65). -/
def lampOutput (s : State) : Bool := decide (s.scan.lamp ≠ .off)

def supplyOutput (s : State) : Bool := decide (s.print.supply ≠ .off)

/-- The CCD clocks run while the line timing does (R44). -/
def ccdClocks (s : State) : Bool := s.scan.lineTimer.isSome

/-- The ROM port's outputs (R157): select, the serial clock, the command and address bytes that began the transaction, and data out
while data is read. The clock is stopped while the write store is full (R162). -/
structure RomPort where
  select : Bool
  clock : Bool
  header : List Byte
  dataOut : Bool
  deriving DecidableEq, Repr

/-- The idle port: select inactive, clock stopped low (R157, R150). -/
def RomPort.idle : RomPort := { select := false, clock := false, header := [], dataOut := false }

/-- READ, then the 24-bit ROM address, most significant byte first (R157). -/
def romHeader (addr : Nat) : List Byte := 3#8 :: (be32 addr).drop 1

/-! ## Wait phases and quiet (R143) -/

def scanWaits (s : State) : Bool :=
  match s.scan.work with
  | some (.page j) => decide (j.phase = .waitOwner)
  | some (.gray j) => decide (j.phase = .waitOwner)
  | none => false

def printWaits (s : State) : Bool :=
  match s.print.work with
  | some j => decide (j.phase = .waitOwner) || decide (j.phase = .waitPage)
  | none => false

def sendWaits (s : State) : Bool :=
  match s.modem.sendWork with
  | some (.wait _ _ _ _) => true
  | _ => false

/-- The receive handshake is IDLE and the receive latch is empty. -/
def receiveIdle (s : State) : Bool := !s.modem.acked && s.modem.latch.isNone

def motionWaits (c : ChannelId) (s : State) : Bool :=
  match s.job c with
  | some j => match j.phase with
    | .waitOwner | .waiting _ => true
    | _ => false
  | none => false

/-- The engine of the chain has its record in a wait phase. -/
def engineWaits (s : State) : ChainId → Bool
  | .scan => scanWaits s
  | .print => printWaits s
  | .send => sendWaits s
  | .receive => s.modem.receiveWork.isSome && receiveIdle s
  | .docMotion => motionWaits .d s
  | .paperMotion => motionWaits .p s

/-- The chain has no TAKEN record, or one in a wait phase; and no follow is in progress. -/
def chainQuiet (s : State) (c : ChainId) : Bool :=
  decide ((s.chain c).follow = .idle)
    && ((s.chain c).taken.isNone || ((inWork s c).isSome && engineWaits s c))

/-- The part is quiet (R143). -/
def quiet (s : State) : Bool :=
  decide (s.motion.d.state = .off) && decide (s.motion.p.state = .off) && decide (s.scan.lamp = .off)
    && decide (s.print.supply = .off) && decide (s.modem.send = .idle) && !(s.modem.underrun && s.modem.fillOk)
    && receiveIdle s && allChains.all (chainQuiet s)

/-- The part is idle-for-sleep (R143). -/
def idleForSleep (s : State) : Bool :=
  quiet s && allChains.all (fun c => (s.chain c).taken.isNone) && decide (s.boot.result ≠ .none)

end Sys2Proof.Machine
end

