-- ==== Sys2Proof/Machine/PageStore.lean ====
section
/-! DEFINITION. The page store manager (chapter 1): the free list, pages and holds, room, and the posts to the control area. -/

namespace Sys2Proof.Machine

/-! ## Entries (section 11.3) -/

/-- A band link; none is coded 0xFFFF. -/
def linkCode (l : Option Nat) : Nat := l.getD 65535

def bandEntry (b : Band) : List Byte := be8 (b.state.code * 16 + b.page) ++ be8 b.lines ++ be16 (linkCode b.next)

/-- The hold set byte of a page entry (section 11.3). DESIGN CHOICE (log entry 65): bits 7 to 3 are 0. -/
def holdBits (p : Page) : Nat := (if p.fill then 1 else 0) + (if p.print then 2 else 0) + (if p.keep then 4 else 0)

def pageEntry (p : Page) : List Byte :=
  be8 p.state.code ++ be8 (holdBits p) ++ be16 p.lines ++ be16 p.base ++ be16 (linkCode p.first)
    ++ be16 (linkCode p.last) ++ be16 p.count ++ be8 p.spl ++ be8 p.cause.code ++ be16 0

/-- A band on the free list's tail (R2). -/
def Band.blank : Band := { state := .free, page := 0, lines := 0, next := none }

/-- An EMPTY page (R5); its end cause is kept from its last use. -/
def Page.blank (cause : EndCause) : Page :=
  { state := .empty, fill := false, print := false, keep := false, lines := 0, base := 0, first := none, last := none
    count := 0, spl := 0, cause := cause }

def PageStore.band (st : PageStore) (i : Nat) : Band := st.bands.getD i Band.blank

def PageStore.page (st : PageStore) (i : Nat) : Page := st.pages.getD i (Page.blank .none)

def PageStore.setBand (st : PageStore) (i : Nat) (b : Band) : PageStore := { st with bands := st.bands.set i b }

def PageStore.setPage (st : PageStore) (i : Nat) (p : Page) : PageStore := { st with pages := st.pages.set i p }

/-! ## The free list (R3) -/

/-- Return: the band goes to the tail. -/
def PageStore.giveBack (st : PageStore) (b : Nat) : PageStore :=
  let st := st.setBand b Band.blank
  match st.tail with
  | none => { st with head := some b, tail := some b, count := st.count + 1 }
  | some t =>
    let st := st.setBand t { st.band t with next := some b }
    { st with tail := some b, count := st.count + 1 }

/-- The entries a Return changes: the band's, and the old tail's next link. -/
def PageStore.giveBackChanges (st : PageStore) (b : Nat) : List Nat :=
  match st.tail with
  | none => [b]
  | some t => [b, t]

def PageStore.giveBackAll (st : PageStore) : List Nat → PageStore × List Nat
  | [] => (st, [])
  | b :: rest =>
    let (st', ch) := (st.giveBack b).giveBackAll rest
    (st', st.giveBackChanges b ++ ch)

/-- Allocate: the head band is removed; the caller sets it up. -/
def PageStore.allocate (st : PageStore) : Option (Nat × PageStore) :=
  match st.head with
  | none => none
  | some h =>
    let n := st.count - 1
    if n = 0 then some (h, { st with head := none, tail := none, count := 0 })
    else some (h, { st with head := (st.band h).next, count := n })

/-- The bands of a page's chain from its first band on, at most `fuel` of them. -/
def PageStore.walk (st : PageStore) : Option Nat → Nat → List Nat
  | _, 0 => []
  | none, _ => []
  | some b, fuel + 1 => b :: st.walk (st.band b).next fuel

/-! ## Room (R15) -/

/-- Slots left in the FILLING band of the page that is FILLING. -/
def PageStore.fillingRoom (st : PageStore) : Nat :=
  match st.pages.find? fun p => p.state = .filling with
  | none => 0
  | some p => match p.last with
    | none => 0
    | some b => if (st.band b).state = .filling then 16 - (st.band b).lines else 0

def PageStore.roomNow (st : PageStore) : Nat := 16 * st.count + st.fillingRoom

/-! ## Posting (R4) -/

def bandPost (s : State) (i : Nat) : Xfer := areaWrite s (544 + 4 * i) (bandEntry (s.store.band i)) none

def pagePost (s : State) (i : Nat) : Xfer := areaWrite s (288 + 16 * i) (pageEntry (s.store.page i)) none

/-- Each band once, at its first change. -/
def firstOf : List Nat → List Nat
  | [] => []
  | b :: rest => b :: (firstOf rest).filter (fun x => decide (x ≠ b))

/-- The changes of an event, with those from `old` to `st` added: the bands named, the page named if its entry changed, the free count,
and the crossing of the low-water mark (R4, R16). -/
def Unposted.add (old st : PageStore) (bands : List Nat) (page : Nat) (u : Unposted) : Unposted :=
  { u with
    bands := u.bands ++ bands
    pages := if st.page page = old.page page then u.pages else u.pages ++ [page]
    count := u.count || decide (st.count ≠ old.count)
    low := u.low || decide (old.lowMark ≤ old.count ∧ st.count < old.lowMark) }

/-- Takes a changed store over: room is recomputed (R15), and the changes are kept until the event's end (R4). -/
def commitStore (st : PageStore) (bands : List Nat) (page : Nat) (s : State) : State :=
  let u := s.store.unposted.getD
    { place := s.dram.chain.length, bands := [], pages := [], count := false, low := false }
  let u := u.add s.store st bands page
  s.updStore fun _ => { st with room := st.roomNow, unposted := some u }

/-- The posts of one event's changes in the order of R4: the band entries in the order they changed, the page entries, the free count.
POOL-LOW follows the free count's write (R16). -/
def storePosts (s : State) (u : Unposted) : List Xfer :=
  (firstOf u.bands).map (bandPost s) ++ (firstOf u.pages).map (pagePost s)
    ++ (if u.count then [areaWrite s 166 (be16 s.store.count) (if u.low then some .poolLow else none)] else [])

/-- The event's end: its changes are posted as one group, where the first of them came about, while the engine is RUNNING (R4). -/
def flushStore (s : State) : State :=
  match s.store.unposted with
  | none => s
  | some u =>
    let xs := if s.regs.engine = .running then storePosts s u else []
    (s.updStore fun st => { st with unposted := none }).updDram fun d =>
      if requestsHeld s then { d with held := d.held ++ xs }
      else { d with chain := d.chain.take u.place ++ xs ++ d.chain.drop u.place }

/-- The FILLING band of a page, if it has one. -/
def PageStore.fillingBand (st : PageStore) (p : Page) : Option Nat :=
  match p.last with
  | none => none
  | some b => if (st.band b).state = .filling then some b else none

/-! ## Holds (R9 to R14) -/

def Page.held (p : Page) : Bool := p.fill || p.print || p.keep

/-- A page whose hold set is empty lapses: its bands are returned in chain order and it becomes EMPTY, its end cause
kept (R11). -/
def PageStore.lapse (st : PageStore) (i : Nat) : PageStore × List Nat :=
  let p := st.page i
  let (st', ch) := st.giveBackAll (st.walk p.first p.count)
  (st'.setPage i (Page.blank p.cause), ch)

/-- The page takes the fields given, and lapses if no hold is left. -/
def PageStore.settlePage (st : PageStore) (i : Nat) (p : Page) : PageStore × List Nat :=
  let st := st.setPage i p
  if p.held then (st, []) else st.lapse i

/-- The end of a PRINT PAGE removes PRINT from its page (R13). -/
def dropPrint (i : Nat) (s : State) : State :=
  let p := s.store.page i
  if p.state = .empty ∨ ¬ p.print then s
  else
    let (st, ch) := s.store.settlePage i { p with print := false }
    commitStore st ch i s

/-- PAGEDROP removes KEEP (R14). -/
def dropKeep (i : Nat) (s : State) : State :=
  let p := s.store.page i
  if ¬ p.keep then s
  else
    let (st, ch) := s.store.settlePage i { p with keep := false }
    commitStore st ch i s

/-- A print attaches: PRINT is added if it is not there (R10). -/
def addPrint (i : Nat) (s : State) : State :=
  let p := s.store.page i
  if p.print then s else commitStore (s.store.setPage i { p with print := true }) [] i s

/-- The scan's end fixes its page (R9). -/
def fixPage (i : Nat) (cause : EndCause) (s : State) : State :=
  let st := s.store
  let p := st.page i
  let (st, full) : PageStore × List Nat := match st.fillingBand p with
    | none => (st, [])
    | some b => (st.setBand b { st.band b with state := .full }, [b])
  let (st, ch) := st.settlePage i { p with state := .complete, fill := false, cause := cause }
  commitStore st (full ++ ch) i s

/-! ## Filling (R6, R7) -/

/-- The page as its scan's first capture creates it (R6). -/
def Page.created (r : ScanRequest) : Page :=
  { state := .filling, fill := true, print := r.routePrint, keep := r.routeKeep, lines := 0, base := 0, first := none
    last := none, count := 0, spl := r.spl, cause := .none }

/-- Puts a freshly allocated band at the end of a page's chain (R7). -/
def PageStore.append (st : PageStore) (i h : Nat) (p : Page) : PageStore × List Nat :=
  let st := st.setBand h { state := .filling, page := i, lines := 1, next := none }
  let (st, prev) := match p.last with
    | none => (st, [])
    | some l => (st.setBand l { st.band l with next := some h }, [l])
  (st.setPage i { p with first := some (p.first.getD h), last := some h, count := p.count + 1 }, h :: prev)

/-- What a capture assigned: the store after it, the bands changed, the band and the slot, whether the band is now FULL. -/
structure Assigned where
  store : PageStore
  changed : List Nat
  band : Nat
  slot : Nat
  full : Bool
  deriving DecidableEq, Repr

/-- A capture assigns the next slot of page `i`, whose fields before it are `p` (R7). None only if a band is needed and
the free list is empty, which R7 rules out. -/
def PageStore.assign (st : PageStore) (i : Nat) (p : Page) : Option Assigned :=
  match st.fillingBand p with
  | some b =>
    let n := (st.band b).lines + 1
    let band : Band := { st.band b with lines := n, state := if n = 16 then .full else .filling }
    some { store := (st.setBand b band).setPage i p, changed := [b], band := b, slot := n - 1, full := decide (n = 16) }
  | none =>
    match st.allocate with
    | none => none
    | some (h, st) =>
      let (st, ch) := st.append i h p
      some { store := st, changed := ch, band := h, slot := 0, full := false }

/-- The DRAM address of a slot (R1). -/
def PageStore.slotAddr (st : PageStore) (band slot : Nat) : Nat := st.poolBase + 3456 * band + 216 * slot

/-- The DRAM address of line `n` of page `i` (R5, R8). -/
def PageStore.lineAddr (st : PageStore) (i n : Nat) : Nat :=
  let p := st.page i
  let bands := st.walk p.first p.count
  st.slotAddr (bands.getD ((n - p.base) / 16) 0) (n % 16)

/-- A line's DRAM write has completed (R7). -/
def lineWritten (i : Nat) (s : State) : State :=
  let p := s.store.page i
  commitStore (s.store.setPage i { p with lines := p.lines + 1 }) [] i s

/-! ## Progressive freeing (R12) -/

/-- Frees bands from the head of page `i`'s chain while their last line is below `next` and below lines written. -/
def PageStore.freePassed (st : PageStore) (i next : Nat) : Nat → PageStore × List Nat
  | 0 => (st, [])
  | fuel + 1 =>
    let p := st.page i
    match p.first with
    | none => (st, [])
    | some b =>
      let band := st.band b
      let lastLine := p.base + band.lines - 1
      if band.state = .filling ∨ next ≤ lastLine ∨ p.lines ≤ lastLine then (st, [])
      else
        let p := { p with first := band.next, base := p.base + band.lines, count := p.count - 1 }
        let p := if p.count = 0 then { p with first := none, last := none, base := p.lines } else p
        let ch := st.giveBackChanges b
        let (st, ch') := ((st.giveBack b).setPage i p).freePassed i next fuel
        (st, ch ++ ch')

/-- The report of a print's next source index (R12). -/
def reportPassed (i next : Nat) (s : State) : State :=
  let p := s.store.page i
  if p.keep then s
  else
    let (st, ch) := s.store.freePassed i next p.count
    match ch with
    | [] => s
    | _ => commitStore st ch i s

/-! ## Building and dropping the pool (R17, R18) -/

/-- ENGINE-RESET drops lists, tables and room (R18); the copies of pool base, B and low-water mark last until the next accepted START
(R1, R133). -/
def PageStore.dropped (st : PageStore) : PageStore :=
  { PageStore.cold with poolBase := st.poolBase, bandCount := st.bandCount, lowMark := st.lowMark }

def PageStore.built (poolBase bandCount lowMark : Nat) : PageStore :=
  { poolBase := poolBase, bandCount := bandCount, lowMark := lowMark
    bands := (List.range bandCount).map fun i =>
      { Band.blank with next := if i + 1 = bandCount then none else some (i + 1) }
    pages := List.replicate 16 (Page.blank .none)
    head := some 0, tail := some (bandCount - 1), count := bandCount, room := 16 * bandCount, unposted := none }

/-- The band and page tables as START writes them (R17). -/
def PageStore.tables (st : PageStore) : List Byte := (st.pages.map pageEntry).flatten ++ (st.bands.map bandEntry).flatten

end Sys2Proof.Machine
end

