-- ==== Sys2Proof/Machine/Operands.lean ====
section
/-! DEFINITION. The operand forms: record bodies and their field checks, table data parts, the setup block, the register views, the
status block (chapter 11). -/

namespace Sys2Proof.Machine

/-- A field of a record by its offset in the record; the body copy begins at offset 12. -/
def recField (body : List Byte) (offset size : Nat) : Nat := field body (offset - 12) size

def recAddr (body : List Byte) (offset : Nat) : Nat := addrField body (offset - 12)

/-! ## SCAN PAGE and GRAY CAPTURE (R52, R62) -/

/-- The request fields of a SCAN PAGE, the line limit clamped to 1 to 6000 (R52). -/
def scanRequest (body : List Byte) : ScanRequest :=
  let route := recField body 13 1
  { page := recField body 12 1, routePrint := route.testBit 0, routeKeep := route.testBit 1, spl := recField body 14 1
    matrixMode := decide (recField body 15 1 = 1), threshold := recField body 16 1, trail := recField body 17 1
    leadIn := recField body 18 1, top := recField body 19 1
    lineLimit := min 6000 (max 1 (recField body 20 2)), feedLimit := recField body 22 2, eject := recField body 24 2 }

/-- No field of the SCAN PAGE is a BAD-FIELD (R52). -/
def scanFieldsOk (body : List Byte) : Bool :=
  let r := scanRequest body
  decide (r.page < 16) && (r.routePrint || r.routeKeep) && decide (r.spl = 1 ∨ r.spl = 2 ∨ r.spl = 4)
    && decide (recField body 15 1 ≤ 1) && decide (0 < r.feedLimit)

/-- A SCAN PAGE before it has taken its channel; the top it used is unstated then (log entry 5). -/
def newScanJob (r : ScanRequest) (s : State) : ScanJob :=
  { request := r, phase := .waitOwner, top := unstated s, captured := 0, leadInDone := 0, trailDone := 0
    uncovered := false, pausedFromTrail := false, pauses := 0, docSteps := 0, created := false, captureStopped := false
    cause := .none, outcome := none }

/-- The address and line count of a GRAY CAPTURE if they pass (R62). -/
def grayRequest (installed : Nat) (body : List Byte) : Option (Nat × Nat) :=
  let a := recAddr body 12
  let n := recField body 16 1
  if a % 4 = 0 ∧ 1 ≤ n ∧ n ≤ 16 ∧ a + 1728 * n - 1 < installed then some (a, n) else none

/-! ## PRINT PAGE (R68) -/

def printStamp (addr : Nat) (body : List Byte) : Option Stamp :=
  if recField body 14 1 = 0 then none
  else some { area := addr + 48, offset := recField body 32 2, count := recField body 15 1 }

def printRequest (addr : Nat) (body : List Byte) : PrintRequest :=
  { source :=
      if recField body 12 1 = 0 then .page (recField body 13 1)
      else .lines (recAddr body 16) (recField body 20 2) (recField body 22 2)
    stamp := printStamp addr body, scale := min 1024 (max 64 (recField body 24 2)), interval := recField body 26 2
    topMargin := recField body 28 2, feedOut := recField body 30 2, top := recField body 34 1 }

def sourceOk (installed : Nat) : Source → Bool
  | .page i => decide (i < 16)
  | .lines a pitch n =>
    decide (a % 4 = 0) && decide (216 ≤ pitch ∧ pitch ≤ 65532 ∧ pitch % 4 = 0) && decide (1 ≤ n ∧ n ≤ 8192)
      && decide (a + pitch * (n - 1) + 215 < installed)

def stampOk (installed : Nat) : Option Stamp → Bool
  | none => true
  | some st => decide (1 ≤ st.count ∧ st.count ≤ 64) && decide (st.area + 216 * st.count - 1 < installed)

def printFieldsOk (installed addr : Nat) (body : List Byte) : Bool :=
  let r := printRequest addr body
  decide (recField body 12 1 ≤ 1) && sourceOk installed r.source && stampOk installed r.stamp

/-- A PRINT PAGE before it has taken its channel; interval and top used are unstated then (log entry 5). -/
def newPrintJob (r : PrintRequest) (s : State) : PrintJob :=
  { request := r, phase := .waitOwner, interval := unstated s, top := unstated s, outputLines := 0, waits := 0
    overLimit := 0, highest := 0, due := false, lineActive := false, lastDone := none, cutAtRest := false }

/-! ## SEND and RECEIVE records (R102, R105, R106, R109) -/

def blockRequest (installed : Nat) (body : List Byte) : Option SendBlockJob :=
  let a := recAddr body 16
  let n := recField body 20 2
  let mode := recField body 12 1
  let flags := recField body 13 1
  if mode ≤ 15 ∧ a % 4 = 0 ∧ 1 ≤ n ∧ a + n - 1 < installed then
    some { mode := BitVec.ofNat 4 mode, addr := a, count := n, last := flags.testBit 0, fillOk := flags.testBit 1
           fillByte := BitVec.ofNat 8 (recField body 14 1), fetched := 0, offered := 0, sent := 0 }
  else none

def modeRequest (body : List Byte) : Option (BitVec 4) :=
  let m := recField body 12 1
  if m ≤ 15 then some (BitVec.ofNat 4 m) else none

/-- Mask, value and timeout of a CONDITION WAIT (R106): a value with a 1 where the mask has 0 does not pass. -/
def conditionRequest (body : List Byte) : Option (BitVec 4 × BitVec 4 × Nat) :=
  let m := recField body 12 1
  let v := recField body 13 1
  if m ≤ 15 ∧ v ≤ 15 ∧ v &&& m = v then some (BitVec.ofNat 4 m, BitVec.ofNat 4 v, recField body 14 2) else none

def receiveRequest (installed : Nat) (body : List Byte) : Option ReceiveJob :=
  let a := recAddr body 12
  let n := recField body 16 2
  if a % 4 = 0 ∧ 1 ≤ n ∧ a + n - 1 < installed then some { addr := a, length := n, count := 0, outcome := none } else none

/-! ## Motion records (R31, R32, R35) -/

def endActionOf : Nat → Option EndAction
  | 0 => some .timedHold
  | 1 => some .keepHold
  | 2 => some .off
  | _ => none

def directionOf : Nat → Option Bool
  | 0 => some true
  | 1 => some false
  | _ => none

def sensorOf (n : Nat) : Option Sensor := allSensors[n]?

/-- A level code: 1 is the first level of the sensor's row (section 11.3). -/
def levelOf : Nat → Option Bool
  | 0 => some false
  | 1 => some true
  | _ => none

def moveRequest (body : List Byte) : Option MotionRequest :=
  match directionOf (recField body 14 1), endActionOf (recField body 16 1) with
  | some fwd, some a =>
    let n := recField body 12 2
    if n = 0 then none else some (.move n fwd (recField body 15 1) a)
  | _, _ => none

def edgeRequest (body : List Byte) : Option MotionRequest :=
  match sensorOf (recField body 16 1), levelOf (recField body 17 1), directionOf (recField body 18 1),
    endActionOf (recField body 20 1) with
  | some n, some level, some fwd, some a =>
    let limit := recField body 12 2
    if limit = 0 ∨ 2 < sensorIndex n then none
    else
      some (.edge
        { limit := limit, after := recField body 14 2, sensor := n, target := level, forward := fwd
          top := recField body 19 1, action := a })
  | _, _, _, _ => none

def sensorWaitRequest (body : List Byte) : Option MotionRequest :=
  match sensorOf (recField body 12 1), levelOf (recField body 13 1) with
  | some n, some level => some (.wait n level (recField body 14 2))
  | _, _ => none

/-! ## Table data parts (section 11.5, R36, R63, R87) -/

/-- A motor table that passes the checks of R36; ramp entries from R on are not read. -/
def motorTableOf (data : List Byte) : Option MotorTable :=
  let stride := field data 8 1
  let r := field data 9 1
  let ramp := (List.range r).map fun i => field data (12 + 2 * i) 2
  if (stride = 1 ∨ stride = 2) ∧ 1 ≤ r ∧ r ≤ 32 ∧ ramp.all (fun v => decide (100 ≤ v)) then
    some { patterns := (List.range 8).map fun i => (data.getD i 0).setWidth 4, stride := stride, ramp := ramp
           holdMs := field data 10 2 }
  else none

/-- A heat table that passes the checks of R87. -/
def heatTableOf (data : List Byte) : Option HeatTable :=
  let t : HeatTable :=
    { energy := (List.range 16).map fun i => field data (2 * i) 2, minPulse := field data 32 2
      maxPulse := field data 34 2, kHot := field data 36 1, kWarm := field data 37 1, dotLimit := field data 38 2
      clockMHz := field data 40 1, settleMs := field data 41 1, lingerS := field data 42 1, tStop := field data 43 1
      tResume := field data 44 1, overheatS := field data 45 1, coolMs := field data 46 2 }
  if t.energy.all (fun v => decide (v ≤ 4095)) ∧ t.minPulse ≤ t.maxPulse ∧ t.maxPulse ≤ 4095 ∧ 1 ≤ t.kHot
      ∧ t.kHot ≤ t.kWarm ∧ t.kWarm ≤ 16 ∧ 1 ≤ t.dotLimit ∧ t.dotLimit ≤ 1728
      ∧ (t.clockMHz = 2 ∨ t.clockMHz = 4 ∨ t.clockMHz = 8) ∧ 0 < t.tStop ∧ t.tResume < t.tStop ∧ 0 < t.overheatS then
    some t
  else none

def tapOf (data : List Byte) (t : Nat) : Tap :=
  let o := 12 + 6 * t
  { start := field data o 2, dir := signedByte (field data (o + 2) 1), invert := decide (field data (o + 3) 1 ≠ 0)
    offset := signedByte (field data (o + 4) 1) }

/-- The tap checks of R63. -/
def tapOk (g : Geometry) (t : Tap) : Bool :=
  let last : Int := t.start + t.dir * ((g.elements / g.taps : Nat) - 1 : Int)
  decide (t.dir = 1 ∨ t.dir = -1) && decide (-32 ≤ t.offset ∧ t.offset ≤ 31) && decide (t.start < g.elements)
    && decide (0 ≤ last ∧ last < g.elements)

/-- A GEOMETRY part (36 bytes) that passes R63; the taps beyond the tap count are not read. -/
def geometryOf (data : List Byte) : Option Geometry :=
  let taps := field data 1 1
  let g : Geometry :=
    { pixelMHz := field data 0 1, taps := taps, elements := field data 2 2, period := field data 4 2
      window := field data 6 2, warmMs := field data 8 2, lingerS := field data 10 1
      tapMap := (List.range taps).map (tapOf data) }
  if (g.pixelMHz = 1 ∨ g.pixelMHz = 2 ∨ g.pixelMHz = 4) ∧ (taps = 1 ∨ taps = 2 ∨ taps = 4) ∧ 1728 ≤ g.elements
      ∧ g.elements ≤ 4096 ∧ g.elements % 4 = 0 ∧ 500 ≤ g.period ∧ g.period ≤ 20000 ∧ g.tapMap.all (tapOk g)
      ∧ g.window + 1728 ≤ g.elements ∧ g.elements ≤ g.period * g.pixelMHz then
    some g
  else none

def maskOk (n : Nat) : Bool := decide (n = 0 ∨ n = 1 ∨ n = 3 ∨ n = 7)

/-- A MATRIX part (68 bytes) that passes R63. -/
def matrixOf (data : List Byte) : Option Matrix :=
  let m : Matrix :=
    { rowMask := field data 0 1, colMask := field data 1 1, cells := (List.range 64).map fun i => field data (4 + i) 1 }
  if maskOk m.rowMask && maskOk m.colMask then some m else none

/-- A GAIN part (3456 bytes) that passes R63. -/
def gainOf (data : List Byte) : Option (List Nat) :=
  let g := (List.range 1728).map fun i => field data (2 * i) 2
  if g.all (fun v => decide (v ≤ 1023)) then some g else none

/-- The size of a scan table data part, by its flags byte (section 11.5). -/
def scanPartSize (flags : Nat) : Nat :=
  4 + (if flags.testBit 0 then 36 else 0) + (if flags.testBit 1 then 68 else 0) + (if flags.testBit 2 then 3456 else 0)

/-- A present part is taken from the data, an absent one stays as it is. -/
def partOr {α : Type} (present : Bool) (parse : List Byte → Option α) (data : List Byte) (old : α) : Option α :=
  if present then parse data else some old

/-- The scan tables with the parts of the data part replaced, if every present part passes (R63). -/
def scanTablesOf (old : ScanTables) (data : List Byte) : Option ScanTables :=
  let flags := field data 0 1
  let matrixAt := if flags.testBit 0 then 40 else 4
  let gainAt := matrixAt + (if flags.testBit 1 then 68 else 0)
  match partOr (flags.testBit 0) geometryOf (data.drop 4) old.geometry,
    partOr (flags.testBit 1) matrixOf (data.drop matrixAt) old.matrix,
    partOr (flags.testBit 2) gainOf (data.drop gainAt) old.gain with
  | some g, some m, some v => some { geometry := g, matrix := m, gain := v }
  | _, _, _ => none

/-! ## Setup block (section 11.3) -/

structure Setup where
  poolBase : Nat
  bandCount : Nat
  lowMark : Nat
  bandLimit : Nat
  debounceMs : Nat
  noteMask : BitVec 6
  ackLimit : Nat
  idleSeconds : Nat
  fillLimit : Nat
  holdLimitMs : Nat
  wakeAfter : Nat
  deriving DecidableEq, Repr

/-- The setup fields, clamped where their rules give a clamp: debounce (R38), ack limit (R100), fill limit (R104). -/
def setupOf (b : List Byte) : Setup :=
  { poolBase := addrField b 0, bandCount := field b 4 2, lowMark := field b 6 2, bandLimit := field b 8 1
    debounceMs := max 1 (field b 9 1), noteMask := BitVec.ofNat 6 (field b 10 1), ackLimit := max 1 (field b 11 1)
    idleSeconds := field b 12 2, fillLimit := max 1 (field b 14 2), holdLimitMs := field b 16 2
    wakeAfter := addrField b 20 }

/-- Checks 2 to 5 of START (R133). -/
def setupOk (installed area : Nat) (u : Setup) : Bool :=
  decide (16 ≤ u.bandCount ∧ u.bandCount ≤ 512)
    && decide (u.poolBase % 4 = 0 ∧ u.poolBase + 3456 * u.bandCount ≤ installed)
    && decide (u.poolBase + 3456 * u.bandCount ≤ area ∨ area + 4096 ≤ u.poolBase)
    && decide (u.lowMark ≤ u.bandCount)

/-! ## Registers (R132, section 11.2) -/

def engineBit (s : State) : Nat := if s.isRunning then 1 else 0

def slotCode : Slot → Nat
  | .none => 0 | .doze => 1 | .sleep => 2

/-- The boot result field of PWRCTL; the host never reads it before an OK or SKIPPED end. -/
def bootCode : BootResult → Nat
  | .ok n => n
  | .skipped => 15
  | .none | .failure _ => 0

def pwrctlValue (s : State) : Half :=
  BitVec.ofNat 16
    ((if s.power.state = .doze then 1 else 0) + 2 * engineBit s + 4 * slotCode s.power.slot
      + 16 * bootCode s.boot.result + 256 * s.regs.wakeMask.toNat)

/-- The value of the register at a word address, none where no register is. -/
def registerAt (s : State) (a : Nat) : Option Half :=
  if a = 0xFFFFF0 then some 0x0281
  else if a = 0xFFFFF2 then some (s.regs.area.setWidth 16)
  else if a = 0xFFFFF4 then some 0
  else if a = 0xFFFFF6 then some (s.regs.notes.setWidth 16)
  else if a = 0xFFFFF8 then some (s.regs.noteMask.setWidth 16)
  else if a = 0xFFFFFA then some (pwrctlValue s)
  else if a = 0xFFFFFC then some 0
  else none

/-! ## Status block (section 11.3) -/

/-- The whole status block from the state in force, with the fault code given. DESIGN CHOICE (log entry 65): bits the tables do not
name are 0. -/
def statusBlock (s : State) (running : Bool) (fault : FaultCode) : List Byte :=
  be8 (if running then 1 else 0) ++ be8 fault.code ++ be8 (levelBits s SensorCell.accepted)
    ++ be8 (if s.modem.linkUp then 1 else 0) ++ be8 s.modem.code.toNat ++ be8 s.print.tempCode ++ be16 s.store.count
    ++ be8 s.power.causes.toNat ++ be8 s.scan.lamp.code ++ be8 s.print.supply.code
    ++ be8 s.motion.d.state.code ++ be8 s.motion.p.state.code ++ be8 s.motion.d.owner.code ++ be8 s.motion.p.owner.code
    ++ be8 0 ++ be32 s.motion.d.position.toNat ++ be32 s.motion.p.position.toNat ++ be32 s.modem.fillTotal.toNat
    ++ be32 s.print.overTotal.toNat ++ List.replicate 96 0

end Sys2Proof.Machine
end

