-- ==== Sys2Proof/Machine/Scan.lean ====
section
/-! DEFINITION. The scan unit (chapter 3): lamp, line reading, capture, stop margin, SCAN PAGE and GRAY CAPTURE. -/

namespace Sys2Proof.Machine

def State.updScanJob (s : State) (j : ScanJob) : State := s.updScan fun u => { u with work := some (.page j) }

def State.updGrayJob (s : State) (j : GrayJob) : State := s.updScan fun u => { u with work := some (.gray j) }

/-! ## The lamp (R42, R43) and the line timing (R44) -/

def LampState.lit : LampState → Bool
  | .on | .linger => true
  | .off | .warming => false

/-- A change of lamp state, with its timers, posted while the engine is RUNNING (R43). The line timing begins when the lamp becomes
lit and stops when it goes dark (R44). -/
def setLamp (st : LampState) (warm linger : Option Nat) (s : State) : State :=
  let old := s.scan.lamp
  let s := s.updScan fun u =>
    { u with
      lamp := st, warmTimer := warm, lingerTimer := linger
      lineTimer := if st.lit then (if old.lit then u.lineTimer else some u.tables.geometry.period) else none }
  if st = old then s else postStatus 9 (be8 st.code) s

/-- A scan record enters WARM-UP (R42). -/
def lampUp (s : State) : State :=
  match s.scan.lamp with
  | .off =>
    let ms := s.scan.tables.geometry.warmMs
    if ms = 0 then setLamp .on none none s else setLamp .warming (some (ms * 1000)) none s
  | .linger => setLamp .on none none s
  | .warming | .on => s

/-- The record that lit the lamp ends (R42). -/
def lampDown (s : State) : State :=
  match s.scan.lamp with
  | .on =>
    let sec := s.scan.tables.geometry.lingerS
    if sec = 0 then setLamp .off none none s else setLamp .linger none (some (sec * 1000000)) s
  | .warming => setLamp .off none none s
  | .off | .linger => s

/-! ## Reading, correcting and deciding (R45 to R47) -/

def clampByte (v : Int) : Nat := if v < 0 then 0 else if 255 < v then 255 else v.toNat

/-- The sample number at which tap `t` places a sample on element `e`, if it does (R45). -/
def tapSample (g : Geometry) (t : Nat) (tap : Tap) (e : Nat) : Option Nat :=
  let k := ((e : Int) - tap.start) * tap.dir
  if 0 ≤ k ∧ k < (g.elements / g.taps : Nat) then some (k.toNat * g.taps + t) else none

/-- The sample made into a value by invert flag and dark offset (R45). -/
def tapValue (tap : Tap) (sample : Nat) : Nat :=
  clampByte ((if tap.invert then 255 - (sample : Int) else sample) + tap.offset)

/-- Of the taps that place a sample on the element, the one that arrives last stands; none gives 0 (R45). -/
def elementValue (g : Geometry) (samples : List Byte) (e : Nat) : Nat :=
  let placed := (g.tapMap.take g.taps).zipIdx.filterMap fun tt =>
    (tapSample g tt.2 tt.1 e).map fun n => (n, tt.1)
  match placed.foldl (fun best c => match best with
      | none => some c
      | some b => if b.1 < c.1 then some c else some b) (none : Option (Nat × Tap)) with
  | none => 0
  | some (n, tap) => tapValue tap (samples.getD n 0).toNat

/-- The value v of dot p (R45). -/
def dotValue (g : Geometry) (samples : List Byte) (p : Nat) : Nat := elementValue g samples (g.window + p)

/-- Shading (R46). -/
def shade (v gain : Nat) : Nat := min 255 ((v * gain + 128) / 256)

/-- The threshold of dot p in page line n (R47). -/
def threshold (m : Matrix) (r : ScanRequest) (n p : Nat) : Nat :=
  if r.matrixMode then m.cells.getD ((n % (m.rowMask + 1)) * 8 + p % (m.colMask + 1)) 0 else r.threshold

/-- The binarized line n of a page (R46, R47): a dot is black when its corrected value is below its threshold. -/
def binarize (tb : ScanTables) (r : ScanRequest) (n : Nat) (samples : List Byte) : Line :=
  lineOfDots ((List.range 1728).map fun p =>
    decide (shade (dotValue tb.geometry samples p) (tb.gain.getD p 0) < threshold tb.matrix r n p))

/-- A gray row: the uncorrected values of the dots (R62). -/
def grayRowOf (g : Geometry) (samples : List Byte) : List Byte :=
  (List.range 1728).map fun p => BitVec.ofNat 8 (dotValue g samples p)

/-! ## The stop margin (R56) -/

def margin (spl x : Nat) : Nat := ceilDiv (stopSteps x) spl + 1

/-- Rises are tested in FEED, LEAD-IN, CAPTURE and TRAIL (R56). -/
def ScanPhase.testsRise : ScanPhase → Bool
  | .feed | .leadIn | .capture | .trail => true
  | _ => false

def withholdRise (s : State) (j : ScanJob) : Bool :=
  j.phase.testsRise && decide (s.store.room < margin j.request.spl (s.motion.d.ramp + 1))

/-- The run count (R55). -/
def ScanJob.runCount (j : ScanJob) : Nat :=
  (j.request.leadIn - j.leadInDone) + j.request.spl * (j.request.lineLimit - j.captured + 1) + j.request.eject

/-- The interval floor of a SCAN PAGE (R51). -/
def scanFloor (s : State) (r : ScanRequest) : Nat := ceilDiv s.scan.tables.geometry.period r.spl

def startScanRun (n : Nat) (j : ScanJob) (s : State) : State :=
  putChannel .d (s.motion.d.begin s.now n true j.top) s

/-! ## Ends (R59) -/

/-- The results of a SCAN PAGE (R59, section 11.4). -/
def ScanJob.results (j : ScanJob) : List (Nat × List Byte) :=
  [(28, be16 j.request.lineLimit), (30, be16 j.pauses), (32, be32 j.docSteps), (36, be8 j.top),
   (37, be8 (if j.created then j.cause else .none).code), resultWord j.captured]

/-- The end effects on channel D and the lamp (R59). DESIGN CHOICE (log entry 60): their posts are asked for in this order, behind the end
writes of the record. -/
def releaseScan (s : State) : State :=
  let s := putChannel .d s.motion.d.disown s
  let s := lampDown s
  s.updScan fun u => { u with work := none, bandWait := none }

/-- A SCAN PAGE that owns channel D ends with the outcome decided for it (R59); the end writes stand before the posts of the channel and the
lamp (log entry 60). -/
def finishScan (j : ScanJob) (s : State) : State :=
  let s := if j.created then fixPage j.request.page j.cause s else s
  let (o, r) := j.outcome.getD (.done, .none)
  releaseScan (endRecord .scan o r j.results s)

/-- A GRAY CAPTURE that owns channel D ends (R62), in the order of `finishScan` (log entry 60). -/
def finishGray (o : RecordOutcome) (r : Reason) (stored : Nat) (s : State) : State :=
  releaseScan (endRecord .scan o r [resultWord stored] s)

/-- A scan record ends before it took channel D: channel and lamp untouched (R52, R53, R60). -/
def dropScan (o : RecordOutcome) (r : Reason) (results : List (Nat × List Byte)) (s : State) : State :=
  (endRecord .scan o r results s).updScan fun u => { u with work := none }

/-! ## PAUSED (R57) -/

/-- The page ends MEMORY-FULL; no eject steps are taken (R57, R58). -/
def memoryFull (j : ScanJob) (s : State) : State :=
  (s.updScan fun u => { u with bandWait := none }).updScanJob
    { j with phase := .closing, captureStopped := true, cause := .memoryFull, outcome := some (.failed, .memoryFull) }

/-- The scan restarts from index 0 in the phase it paused from; the capture reference is kept (R57). -/
def restartScan (j : ScanJob) (s : State) : State :=
  let s := startScanRun j.runCount j (s.updScan fun u => { u with bandWait := none })
  s.updScanJob { j with phase := if j.pausedFromTrail then .trail else .capture }

/-- Channel D has come to rest after a stop for room (R57). -/
def pauseScan (j : ScanJob) (s : State) : State :=
  let s := putChannel .d (s.motion.d.settle .holding none) s
  let j := { j with phase := .paused, pausedFromTrail := decide (j.phase = .trail), pauses := j.pauses + 1 }
  if margin j.request.spl j.top ≤ s.store.room then restartScan j s
  else if s.scan.bandLimit = 0 then memoryFull j s
  else (s.updScan fun u => { u with bandWait := some (u.bandLimit * 100000) }).updScanJob j

/-- The stop test (R56): a stop request when room is below the margin of the index in force. -/
def stopTest (j : ScanJob) (s : State) : State :=
  if s.store.room < margin j.request.spl s.motion.d.ramp then
    putRunOut .d s.motion.d.stopRequest (pauseScan j) (s.updScanJob j)
  else s.updScanJob j

/-! ## Ending the capture (R58) -/

/-- A TRAIL-END or LENGTH stop: the record enters EJECT. -/
def startEject (cause : EndCause) (j : ScanJob) (s : State) : State :=
  let j := { j with captureStopped := true, cause := cause, outcome := some (.done, .none) }
  let c := s.motion.d
  if c.moving then
    let c := c.runOut (max j.request.eject (stopSteps c.ramp)) true
    if c.resting then (putChannel .d (c.settle .holding none) s).updScanJob { j with phase := .closing }
    else (putChannel .d c s).updScanJob { j with phase := .eject }
  else
    let s := s.updScan fun u => { u with bandWait := none }
    if j.request.eject = 0 then s.updScanJob { j with phase := .closing }
    else (startScanRun j.request.eject j s).updScanJob { j with phase := .eject }

/-- A stop request that ends the feed or the capture: CLOSING follows at rest (R58, R60). DESIGN CHOICE (log entry 51): a record cut in
PAUSED, or cut and come to rest, that still waits for its line buffers is in CLOSING. -/
def runDownScan (j : ScanJob) (s : State) : State :=
  let c := s.motion.d
  let s := s.updScan fun u => { u with bandWait := none }
  if c.moving then
    let c := c.stopRequest
    if c.resting then (putChannel .d (c.settle .holding none) s).updScanJob { j with phase := .closing }
    else (putChannel .d c s).updScanJob { j with phase := .runDown }
  else s.updScanJob { j with phase := .closing }

/-- TRAIL is entered; with trail lines 0 capture stops in the same event (R58). DESIGN CHOICE (log entry 37): R56 names a stop test at the
entry to CAPTURE and at each step and capture in CAPTURE and TRAIL; the model makes it at the entry to TRAIL too, from LEAD-IN as well. -/
def enterTrail (j : ScanJob) (s : State) : State :=
  let j := { j with phase := .trail }
  if j.request.trail = 0 then startEject .trailEnd j s else stopTest j s

/-- CAPTURE is entered, or TRAIL if DOC-READ uncovered during LEAD-IN; the capture reference is set (R50, R55). A motor at rest
starts its profile unless the stop test finds too little room (R56). DESIGN CHOICE (log entry 70): at rest that test uses margin(0), whatever
index a cover opening or an engine reset has left (R23, R40, R41). -/
def enterCapture (j : ScanJob) (s : State) : State :=
  let s := s.updScan fun u => { u with captureRef := s.motion.d.position }
  if j.uncovered then enterTrail j s
  else
    let j := { j with phase := .capture }
    if s.motion.d.moving then stopTest j s
    else if s.store.room < margin j.request.spl 0 then pauseScan j s
    else (startScanRun j.runCount j s).updScanJob j

/-! ## Capture at a line boundary (R49, R50) -/

def advance (s : State) : Int := (s.motion.d.position - s.scan.captureRef).toInt

/-- The captured line goes into a free line buffer and its write to the slot is asked for (R7, R49). -/
def bufferLine (l : Line) (addr : Nat) (s : State) : State :=
  let s := s.updScan fun u => { u with buffers := u.buffers ++ [l] }
  ask .scan { tag := .lineBuffer, addr := addr, data := .write (lineBytes l), note := none } s

/-- The page's fields at a capture: as created at the first one (R6), else as they stand. -/
def pageAtCapture (j : ScanJob) (s : State) : Page :=
  if j.created then s.store.page j.request.page else Page.created j.request

/-- What follows a capture: the trail count, the end of capture, the stop test (R56, R58). -/
def afterCapture (j : ScanJob) (s : State) : State :=
  let inTrail := decide (j.phase = .trail) || (decide (j.phase = .paused) && j.pausedFromTrail)
  let j := if inTrail then { j with trailDone := j.trailDone + 1 } else j
  if inTrail && decide (j.request.trail ≤ j.trailDone) then startEject .trailEnd j s
  else if j.request.lineLimit ≤ j.captured then startEject .length j s
  else if j.phase = .paused then s.updScanJob j
  else stopTest j s

/-- One capture (R7, R49, R50). -/
def capture (samples : List Byte) (j : ScanJob) (s : State) : State :=
  if 2 ≤ s.scan.buffers.length then
    runDownScan { j with captureStopped := true, cause := .overrun, outcome := some (.failed, .overrun) } s
  else
    match s.store.assign j.request.page (pageAtCapture j s) with
    | none => s
    | some a =>
      let l := binarize s.scan.tables j.request j.captured samples
      let s := commitStore a.store a.changed j.request.page s
      let s := bufferLine l (a.store.slotAddr a.band a.slot) s
      let s := s.updScan fun u => { u with captureRef := u.captureRef + BitVec.ofNat 32 j.request.spl }
      let j := { j with captured := j.captured + 1, created := true }
      let s := if a.full then postProgress .scan 26 j.captured s else s
      afterCapture j s

def ScanPhase.captures : ScanPhase → Bool
  | .capture | .paused | .trail => true
  | _ => false

/-- The capture rule at a line boundary (R50). -/
def captureRule (samples : List Byte) (j : ScanJob) (s : State) : State :=
  if j.phase.captures && !j.captureStopped && decide ((j.request.spl : Int) ≤ advance s) then capture samples j s else s

/-- A GRAY CAPTURE stores the line if no row is being written (R62). -/
def grayRule (samples : List Byte) (j : GrayJob) (s : State) : State :=
  if j.phase = .lines ∧ s.scan.grayRow = none ∧ j.stored < j.count then
    let row := grayRowOf s.scan.tables.geometry samples
    let s := s.updScan fun u => { u with grayRow := some row }
    ask .scan { tag := .grayRow, addr := j.addr + 1728 * j.stored, data := .write row, note := none } s
  else s

/-! ## Taking channel D, WARM-UP and the document check (R53, R54) -/

/-- The document check made when the lamp is ON (R54). -/
def documentCheck (j : ScanJob) (s : State) : State :=
  if s.level .docRead then
    if j.request.leadIn = 0 then enterCapture { j with phase := .leadIn } s
    else (startScanRun j.runCount j s).updScanJob { j with phase := .leadIn }
  else if s.level .docPresent then
    (startScanRun j.request.feedLimit j s).updScanJob { j with phase := .feed }
  else finishScan { j with outcome := some (.failed, .noDocument) } s

/-- The claim on channel D (R53): refused while the cover is open. -/
def claimScanPage (j : ScanJob) (s : State) : State :=
  if s.level .coverOpen then dropScan .failed .coverOpen j.results s
  else
    let s := putChannel .d (s.motion.d.claim .scan (some (scanFloor s j.request))) s
    let j := { j with phase := .warmUp, top := s.motion.d.table.clampTop j.request.top }
    (lampUp s).updScanJob j

def claimGray (j : GrayJob) (s : State) : State :=
  if s.level .coverOpen then dropScan .failed .coverOpen [resultWord 0] s
  else (lampUp (putChannel .d (s.motion.d.claim .scan none) s)).updGrayJob { j with phase := .warmUp }

/-- Transitions that are enabled as soon as their condition holds: the claim, the end of WARM-UP, the restart at a rise of room. -/
def scanEnter (s : State) : State :=
  match s.scan.work with
  | some (.page j) => if j.phase = .waitOwner ∧ s.motion.d.claimable then claimScanPage j s else s
  | some (.gray j) => if j.phase = .waitOwner ∧ s.motion.d.claimable then claimGray j s else s
  | none => s

def scanWarm (s : State) : State :=
  match s.scan.work with
  | some (.page j) =>
    if j.phase = .warmUp ∧ s.scan.lamp = .on then documentCheck j s
    else if j.phase = .paused ∧ margin j.request.spl j.top ≤ s.store.room then restartScan j s
    else s
  | some (.gray j) => if j.phase = .warmUp ∧ s.scan.lamp = .on then s.updGrayJob { j with phase := .lines } else s
  | none => s

/-- CLOSING waits until both line buffers are FREE (R59). -/
def scanClose (s : State) : State :=
  match s.scan.work with
  | some (.page j) => if j.phase = .closing ∧ s.scan.buffers = [] then finishScan j s else s
  | _ => s

/-! ## Steps of channel D under a scan -/

/-- What a step of the scan's profile brings, after it has been issued (R54 to R59). -/
def scanStepped (j : ScanJob) (s : State) : State :=
  let c := s.motion.d
  let j := { j with docSteps := j.docSteps + 1 }
  match j.phase with
  | .feed =>
    if c.resting then
      finishScan { j with outcome := some (.failed, .misfeed) } (putChannel .d (c.settle .holding none) s)
    else s.updScanJob j
  | .leadIn =>
    let j := { j with leadInDone := j.leadInDone + 1 }
    if j.request.leadIn ≤ j.leadInDone then enterCapture j s else s.updScanJob j
  | .capture | .trail => if c.resting then pauseScan j s else stopTest j s
  | .runDown | .eject =>
    if c.resting then (putChannel .d (c.settle .holding none) s).updScanJob { j with phase := .closing }
    else s.updScanJob j
  | .waitOwner | .warmUp | .paused | .closing => s.updScanJob j

/-- Issues the next step of channel D for the scan (R23, R56). -/
def scanStep (j : ScanJob) (s : State) : State :=
  scanStepped j (putChannel .d (s.motion.d.issue s.now (withholdRise s j)) s)

/-- Step 1 of a profile is issued at its start when no wait is left (R23). -/
def scanKick (s : State) : State :=
  match s.scan.work with
  | some (.page j) =>
    if s.motion.d.owner = .scan ∧ s.motion.d.stepDue = some 0 ∧ s.motion.d.issued = 0 then scanStep j s else s
  | _ => s

/-- The scan unit after an event: everything enabled at once happens. -/
def scanSettle (s : State) : State := scanClose (scanKick (scanWarm (scanEnter s)))

/-! ## Sensors, cut and cover (R54, R55, R58, R60, R61) -/

/-- DOC-READ's accepted level became COVERED (R54). -/
def scanCovered (s : State) : State :=
  match s.scan.work with
  | some (.page j) =>
    if j.phase = .feed then
      let c := s.motion.d
      let pr := c.profile.map fun pr => { pr with planned := pr.issued + j.runCount }
      let s := s.updMotion fun m => { m with d := { c with profile := pr } }
      let j := { j with phase := .leadIn }
      if j.request.leadIn = 0 then enterCapture j s else s.updScanJob j
    else s
  | _ => s

/-- DOC-READ's accepted level became UNCOVERED (R55, R58). -/
def scanUncovered (s : State) : State :=
  match s.scan.work with
  | some (.page j) =>
    match j.phase with
    | .leadIn => s.updScanJob { j with uncovered := true }
    | .capture => enterTrail j s
    | .paused =>
      if j.pausedFromTrail then s
      else
        let j := { j with pausedFromTrail := true }
        if j.request.trail = 0 then startEject .trailEnd j s else s.updScanJob j
    | _ => s
  | _ => s

/-- A cut of a SCAN PAGE at its safe point (R60). DESIGN CHOICE (log entry 38): the spec names no phase for the deceleration after an
OVERRUN stop; in it FAILED OVERRUN stands against a cut. -/
def cutScanPage (j : ScanJob) (s : State) : State :=
  let cutJob := { j with outcome := some (.cut, .cutByHost) }
  match j.phase with
  | .waitOwner => dropScan .cut .cutByHost j.results s
  | .warmUp => finishScan cutJob s
  | .feed | .leadIn => runDownScan { cutJob with captureStopped := true } s
  | .capture | .trail | .paused => runDownScan { cutJob with captureStopped := true, cause := .cut } s
  | .eject => runDownScan cutJob s
  | .runDown | .closing =>
    match j.outcome with
    | some (.failed, _) => s
    | _ => s.updScanJob cutJob

/-- A cut of a GRAY CAPTURE: at once, or when the row's write completes (R62). -/
def cutGray (j : GrayJob) (s : State) : State :=
  match j.phase with
  | .waitOwner => dropScan .cut .cutByHost [resultWord 0] s
  | .warmUp => finishGray .cut .cutByHost j.stored s
  | .lines =>
    if s.scan.grayRow = none then finishGray .cut .cutByHost j.stored s
    else s.updGrayJob { j with outcome := j.outcome <|> some (.cut, .cutByHost) }

def cutScan (s : State) : State :=
  match s.scan.work with
  | none => s
  | some (.page j) => cutScanPage j s
  | some (.gray j) => cutGray j s

/-- COVER-OPEN became OPEN while the scan holds channel D; the channel and the lamp are OFF already (R61, R62). DESIGN CHOICE (log
entries 38, 39): in the deceleration after an OVERRUN stop the outcome becomes FAILED COVER-OPEN; while a gray row is written the outcome
decided first stands. -/
def scanCover (s : State) : State :=
  match s.scan.work with
  | none => s
  | some (.page j) =>
    let failed := { j with outcome := some (.failed, .coverOpen), captureStopped := true, phase := .closing }
    let s := s.updScan fun u => { u with bandWait := none }
    match j.phase with
    | .waitOwner | .closing => s
    | .eject | .runDown => s.updScanJob failed
    | _ => s.updScanJob { failed with cause := .coverOpen }
  | some (.gray j) =>
    match j.phase with
    | .waitOwner => s
    | .warmUp => finishGray .failed .coverOpen j.stored s
    | .lines =>
      if s.scan.grayRow = none then finishGray .failed .coverOpen j.stored s
      else s.updGrayJob { j with outcome := j.outcome <|> some (.failed, .coverOpen) }

/-! ## Completions (R49, R62) -/

/-- The oldest line buffer's write has completed (R7, R49). -/
def lineBufferDone (s : State) : State :=
  match s.scan.work with
  | some (.page j) =>
    lineWritten j.request.page (s.updScan fun u => { u with buffers := u.buffers.drop 1 })
  | _ => s.updScan fun u => { u with buffers := u.buffers.drop 1 }

/-- A gray row's write has completed (R62). -/
def grayRowDone (s : State) : State :=
  let s := s.updScan fun u => { u with grayRow := none }
  match s.scan.work with
  | some (.gray j) =>
    let j := { j with stored := j.stored + 1 }
    match j.outcome with
    | some (o, r) => finishGray o r j.stored s
    | none => if j.count ≤ j.stored then finishGray .done .none j.stored s else s.updGrayJob j
  | _ => s

/-- Engine reset of the scan unit (R64); channel D is the motion unit's. -/
def scanReset (s : State) : State :=
  let s := setLamp .off none none s
  let s := withdrawAll .scan s
  s.updScan fun u => { u with buffers := [], grayRow := none, captureRef := 0, bandWait := none, work := none }

end Sys2Proof.Machine
end

