-- ==== Sys2Proof/Machine/Boot.lean ====
section
/-! DEFINITION. The boot loader (chapter 10): strap, directory, sections, checks, the end of the boot and the FAULT blink. -/

namespace Sys2Proof.Machine

/-! ## CRC-16 (R158) -/

def crcShift (r : BitVec 16) : BitVec 16 := if r.getLsbD 15 then (r <<< 1) ^^^ 0x1021#16 else r <<< 1

def crcByte (r : BitVec 16) (b : Byte) : BitVec 16 :=
  crcShift (crcShift (crcShift (crcShift (crcShift (crcShift (crcShift (crcShift
    (r ^^^ (b.setWidth 16 <<< 8)))))))))

def crcOf (bytes : List Byte) : BitVec 16 := bytes.foldl crcByte 0xFFFF#16

/-! ## Failure and its blink (R165) -/

/-- Pulses of the FAULT output per period (R165). -/
def BootFailure.pulses : BootFailure → Nat
  | .noRom => 1 | .badDirectory => 2 | .sectionCheck => 3 | .sectionRange => 4 | .tableFormat => 5

/-- A boot failure: the state, the kind, no further burst, the first pulse begins (R165). -/
def bootFail (k : BootFailure) (s : State) : State :=
  (withdrawAll .boot s).updBoot fun b =>
    { b with
      state := .failed, result := .failure k, reading := false, romGap := false, staging := [], store := [], asked := 0
      faultOut := true, blinkEdge := 0, blinkTimer := some 150000 }

/-- The next edge of the blink: 150 ms pulses, dark to the end of the 2 s period after the last (R165). `blinkEdge` counts the
pulses ended in the period. -/
def blinkNext (pulses : Nat) (b : Boot) : Boot :=
  if b.faultOut then
    let n := b.blinkEdge + 1
    { b with
      faultOut := false, blinkEdge := n
      blinkTimer := some (if n < pulses then 150000 else 2000000 + 150000 - 300000 * pulses) }
  else
    { b with
      faultOut := true, blinkEdge := if pulses ≤ b.blinkEdge then 0 else b.blinkEdge, blinkTimer := some 150000 }

/-! ## Directory (R159, R160, section 11.6) -/

def entryOf (dir : List Byte) (i : Nat) : DirEntry :=
  let o := 6 + 12 * i
  { kind := field dir o 1, rom := field dir (o + 1) 3, length := field dir (o + 4) 3, dest := field dir (o + 7) 3
    crc := BitVec.ofNat 16 (field dir (o + 10) 2) }

def sizeOfCode : Nat → Option Nat
  | 1 => some 1048576
  | 2 => some 2097152
  | 3 => some 4194304
  | _ => none

/-- The DRAM setup of a directory that passed (R160): the refresh timer restarts at the load, and the new interval takes effect at
its next expiry (R137). -/
def dramSetup (size refresh : Nat) (s : State) : State :=
  s.updDram fun d => { d with installed := size, refreshInterval := refresh, refreshTimer := d.refreshInterval }

/-! ## Sections (R161 to R164) -/

/-- The entry checks of a section (R161). -/
def entryOk (installed : Nat) (e : DirEntry) : Bool :=
  decide (1 ≤ e.kind ∧ e.kind ≤ 5) && decide (1 ≤ e.length ∧ e.length ≤ 1048576)
    && decide (e.rom + e.length - 1 ≤ 0xFFFFFF)
    && (decide (e.kind ≠ 1) || decide (e.dest + e.length - 1 < installed))

def Boot.entry (b : Boot) : DirEntry := b.entries.getD b.index { kind := 0, rom := 0, length := 0, dest := 0, crc := 0 }

/-- A section's turn comes: its entry is checked, then its read transaction begins (R161), select having been inactive for the gap
between transactions (R157). -/
def beginSection (s : State) : State :=
  let e := s.boot.entry
  if entryOk s.dram.installed e then
    s.updBoot fun b =>
      { b with
        reading := true, romGap := true, romAddr := e.rom, crc := 0xFFFF#16, got := 0, store := [], storeAddr := e.dest, asked := 0
        staging := [] }
  else bootFail .sectionRange s

/-- The last section has loaded (R164). -/
def bootEnd (s : State) : State :=
  s.updBoot fun b => { b with state := .ended, result := .ok b.loaded, reading := false, hostReset := false }

/-- A section has loaded: the count rises and the next one, or the end of loading, follows (R162 to R164). -/
def sectionLoaded (s : State) : State :=
  let s := s.updBoot fun b => { b with loaded := b.loaded + 1, index := b.index + 1, staging := [], store := [] }
  if s.boot.entries.length ≤ s.boot.index then bootEnd s else beginSection s

/-- The bytes the write store may ask for as its next burst (R162): up to a 16-byte boundary of DRAM addresses, which every DRAM
page end is, or to the section's end. -/
def bootBurst (e : DirEntry) (b : Boot) : Nat :=
  min (16 - b.storeAddr % 16) (e.dest + e.length - b.storeAddr)

/-- The BOOT requester is asked for a burst when the store holds one (R162). -/
def bootAsk (s : State) : State :=
  let b := s.boot
  let n := bootBurst b.entry b
  if b.asked = 0 ∧ 0 < n ∧ n ≤ b.store.length then
    (ask .boot { tag := .boot, addr := b.storeAddr, data := .write (b.store.take n), note := none } s).updBoot fun b =>
      { b with asked := n }
  else s

/-- The check of a HOST-IMAGE section once its last burst has completed (R162). -/
def imageCheck (s : State) : State :=
  let b := s.boot
  if b.got = b.entry.length ∧ b.store = [] then
    if b.crc = b.entry.crc then sectionLoaded s else bootFail .sectionCheck s
  else s

/-- A BOOT burst has completed (R162). -/
def bootBurstDone (s : State) : State :=
  if s.boot.state = .loading then
    imageCheck (bootAsk (s.updBoot fun b =>
      { b with store := b.store.drop b.asked, storeAddr := b.storeAddr + b.asked, asked := 0 }))
  else s

/-- The table section's values replace the table in force, if length and values pass (R163). -/
def loadTable (e : DirEntry) (data : List Byte) (s : State) : Option State :=
  match e.kind with
  | 2 =>
    if data.length = scanPartSize (field data 0 1) then
      (scanTablesOf s.scan.tables data).map fun t => s.updScan fun u => { u with tables := t }
    else none
  | 3 => if data.length = 48 then (heatTableOf data).map fun t => s.updPrint fun u => { u with heat := t } else none
  | 4 =>
    if data.length = 76 then (motorTableOf data).map fun t => s.updChannel .d fun c => { c with table := t } else none
  | 5 =>
    if data.length = 76 then (motorTableOf data).map fun t => s.updChannel .p fun c => { c with table := t } else none
  | _ => none

/-- The tests of a complete table section, in order (R163). -/
def tableCheck (s : State) : State :=
  let b := s.boot
  if b.got = b.entry.length then
    if b.crc = b.entry.crc then
      match loadTable b.entry b.staging s with
      | some s => sectionLoaded s
      | none => bootFail .tableFormat s
    else bootFail .sectionCheck s
  else s

/-! ## The ROM port (R157) -/

/-- The ROM address at which the transaction in progress began. -/
def Boot.romStart (b : Boot) : Nat :=
  match b.state with
  | .loading => b.entry.rom
  | _ => 0

/-- The port's outputs: the header of the transaction in progress, then data out at 0; idle without one. -/
def romPort (s : State) : RomPort :=
  let b := s.boot
  if b.reading ∧ ¬ b.romGap then
    { select := true, clock := !(decide (b.state = .loading) && decide (b.entry.kind = 1) && decide (16 ≤ b.store.length))
      header := romHeader b.romStart, dataOut := false }
  else RomPort.idle

/-! ## Bytes (R157, R159, R162, R163) -/

/-- The checks made when the directory has arrived whole (R159). -/
def directoryCheck (s : State) : State :=
  let dir := s.boot.directory
  let c := field dir 3 1
  if s.boot.crc ≠ BitVec.ofNat 16 (field dir (6 + 12 * c) 2) then bootFail .badDirectory s
  else
    let refresh := field dir 5 1
    match sizeOfCode (field dir 4 1) with
    | none => bootFail .badDirectory s
    | some size =>
      if refresh < 8 ∨ 31 < refresh then bootFail .badDirectory s
      else
        beginSection ((dramSetup size refresh s).updBoot fun b =>
          { b with
            state := .loading, index := 0, loaded := 0, reading := false, directory := []
            entries := (List.range c).map (entryOf dir) })

/-- A directory byte (R159): the mark at two bytes, the head at six, the rest at the end. -/
def directoryByte (byte : Byte) (s : State) : State :=
  let dir := s.boot.directory ++ [byte]
  let n := dir.length
  let c := field dir 3 1
  let s := s.updBoot fun b =>
    { b with
      directory := dir, romAddr := b.romAddr + 1
      crc := if n ≤ 6 ∨ n ≤ 6 + 12 * c then crcByte b.crc byte else b.crc }
  if n = 2 then
    let mark := field dir 0 2
    if mark = 0xFFFF then bootFail .noRom s else if mark = 0x5242 then s else bootFail .badDirectory s
  else if n = 6 then (if field dir 2 1 = 1 ∧ 1 ≤ c ∧ c ≤ 8 then s else bootFail .badDirectory s)
  else if 6 < n ∧ n = 8 + 12 * c then directoryCheck s
  else s

/-- A section byte (R162, R163). While the write store is full the port's clock is stopped and no byte arrives. DESIGN CHOICE (log entry 73):
a byte that comes in the select gap is taken and ends it. -/
def sectionByte (byte : Byte) (s : State) : State :=
  let e := s.boot.entry
  if s.boot.got ≥ e.length then s
  else
    let next := fun b : Boot =>
      { b with
        got := b.got + 1, romAddr := b.romAddr + 1, romGap := false, crc := crcByte b.crc byte
        reading := decide (b.got + 1 < e.length) }
    if e.kind = 1 then
      if 16 ≤ s.boot.store.length then s
      else bootAsk (s.updBoot fun b => next { b with store := b.store ++ [byte] })
    else tableCheck (s.updBoot fun b => next { b with staging := b.staging ++ [byte] })

/-- A byte of the read transaction in progress (R157). -/
def bootByte (byte : Byte) (s : State) : State :=
  if ¬ s.boot.reading then s
  else match s.boot.state with
    | .readingDirectory => directoryByte byte s
    | .loading => sectionByte byte s
    | .awaitStrap | .ended | .failed => s

/-- The strap is sampled at the first tick after the cold reset, once the oscillator runs (R156). -/
def strapSampled (high : Bool) (s : State) : State :=
  if s.boot.state = .awaitStrap ∧ s.power.oscTimer = none then
    if high then s.updBoot fun b => { b with state := .ended, result := .skipped, hostReset := false }
    else
      s.updBoot fun b =>
        { b with state := .readingDirectory, reading := true, romAddr := 0, crc := 0xFFFF#16, directory := [] }
  else s

end Sys2Proof.Machine
end

