-- ==== Sys2Proof/Machine/Dram.lean ====
section
/-! DEFINITION. The memory controller's grants (R136 to R139), the host cycle it completes, and transfers made at once. -/

namespace Sys2Proof.Machine

/-! ## Reads that may pass the fitted DRAM (R160, log entry 4) -/

/-- A read of `n` bytes; one that reaches beyond the fitted DRAM advances the free value's counter. -/
def readFree (s : State) (a n : Nat) : List Byte × State :=
  (readBytes s a n, if a + n ≤ s.dram.fitted then s else bumpFree s)

/-! ## The host cycle (R129 to R131) -/

/-- The address lies in the control area (R131). -/
def inArea (s : State) (a : Nat) : Bool := decide (areaBase s ≤ a ∧ a < areaBase s + 4096)

def cycleWidth (c : HostCycle) : Nat := if c.isWord then 2 else 1

/-- The value a read returns: a word, or a byte in the low half. -/
def hostValue (bytes : List Byte) : Half := BitVec.ofNat 16 (beNat bytes)

/-- A control-area read answered from the snapshot store; the next following read is at the address after it (R131). -/
def answerSnapshot (c : HostCycle) (block : Nat) (bytes : List Byte) (s : State) : State :=
  let a := c.addr.toNat
  s.updBus fun b =>
    { b with
      result := .data (hostValue ((bytes.drop (a - block)).take (cycleWidth c)))
      snapshot := some (block, bytes), follows := some (a + cycleWidth c) }

/-- The host's DRAM cycle is carried out at its grant (R129, R131). -/
def performHost (c : HostCycle) (s : State) : State :=
  let a := c.addr.toNat
  match c.access with
  | .write data =>
    let bytes := if c.isWord then be16 data.toNat else be8 data.toNat
    (writeBytes s a bytes).updBus fun b => { b with result := .written }
  | .read =>
    if inArea s a then
      let block := a / 16 * 16
      let (bytes, s) := readFree s block 16
      answerSnapshot c block bytes s
    else
      let (bytes, s) := readFree s a (cycleWidth c)
      s.updBus fun b => { b with result := .data (hostValue bytes) }

/-- The held host cycle completes. -/
def hostDone (s : State) : State :=
  match s.bus.cycle with
  | none => s
  | some c => performHost c (s.updBus fun b => { b with cycle := none, rate := 0 })

/-! ## Transfers -/

def Xfer.left (x : Xfer) : Nat :=
  match x.data with
  | .read n _ => n
  | .write bytes => bytes.length

/-- A DRAM page (R136). -/
def pageSize (s : State) : Nat := s.dram.installed / 1024

/-- The next burst of a transfer: at most 16 bytes, within one DRAM page and the transfer (R136). -/
def Xfer.burst (page : Nat) (x : Xfer) : Burst :=
  let n := min (min 16 x.left) (page - x.addr % page)
  match x.data with
  | .read _ _ => .read n
  | .write bytes => .write (bytes.take n)

/-- The bytes a burst reads, and the state after it. -/
def runBurst (a : Nat) (b : Burst) (s : State) : List Byte × State :=
  match b with
  | .read n => readFree s a n
  | .write bytes => ([], writeBytes s a bytes)

def Burst.size : Burst → Nat
  | .read n => n
  | .write bytes => bytes.length

/-- The transfer after a burst of it. -/
def Xfer.advance (x : Xfer) (b : Burst) (got : List Byte) : Xfer :=
  match x.data with
  | .read n have_ => { x with addr := x.addr + b.size, data := .read (n - b.size) (have_ ++ got) }
  | .write bytes => { x with addr := x.addr + b.size, data := .write (bytes.drop b.size) }

/-- What a transfer has still to move is made at once. -/
def runXfer (x : Xfer) (s : State) : Xfer × State :=
  match x.data with
  | .read n have_ =>
    let (got, s) := readFree s x.addr n
    ({ x with addr := x.addr + n, data := .read 0 (have_ ++ got) }, s)
  | .write bytes => ({ x with addr := x.addr + bytes.length, data := .write [] }, writeBytes s x.addr bytes)

/-! ## Grants (R137, R138) -/

/-- An engine grant completes: its burst is made, and its transfer advances if it was not withdrawn. The transfer is answered if that
was its last burst. -/
def engineDone (r : Requester) (a : Nat) (b : Burst) (live : Bool) (s : State) : Option Xfer × State :=
  let (got, s) := runBurst a b s
  if ¬ live then (none, s)
  else match s.dram.queue r with
    | [] => (none, s)
    | x :: rest =>
      let x := x.advance b got
      if x.left = 0 then (some x, s.updDram fun d => d.setQueue r rest)
      else (none, s.updDram fun d => d.setQueue r (x :: rest))

/-- The grant in progress completes; the transfer that has completed with it, if one has, is answered. -/
def completeGrant (s : State) : Option Xfer × State :=
  match s.dram.grant with
  | none => (none, s)
  | some g =>
    let s := s.updDram fun d => { d with grant := none }
    match g with
    | .refresh =>
      (none, s.updDram fun d => { d with refreshRow := (d.refreshRow + 1) % 1024, refreshOwed := d.refreshOwed - 1 })
    | .host => (none, hostDone s)
    | .engine r a b live => engineDone r a b live s

/-- The first waiting engine requester in the fixed order (R138). -/
def firstEngine (d : Dram) : Option Requester :=
  [Requester.boot, .scan, .print, .modem, .chain].find? fun r => !(d.queue r).isEmpty

/-- The grant of an engine requester's next burst. -/
def engineGrant (r : Requester) (s : State) : State :=
  match s.dram.queue r with
  | [] => s
  | x :: _ =>
    s.updDram fun d =>
      { d with grant := some (.engine r x.addr (x.burst (pageSize s)) true), hostTookLast := false }

def hostGrant (s : State) : State := s.updDram fun d => { d with grant := some .host, hostTookLast := true }

/-- Refresh is a waiting requester (R137). From step 2 of a sleep entry on, a refresh that has come due since then waits for the entry's
burst refresh (R150). -/
def refreshWaits (s : State) : Bool :=
  decide ((if requestsHeld s then s.dram.refreshHeld else 0) < s.dram.refreshOwed)

/-- The next grant, by the three rules of R138; none in self-refresh (R139). -/
def giveGrant (s : State) : State :=
  if s.dram.selfRefresh ∨ s.dram.grant.isSome then s
  else if refreshWaits s then s.updDram fun d => { d with grant := some .refresh }
  else match s.bus.cycle, firstEngine s.dram with
    | some _, some r => if s.dram.hostTookLast then engineGrant r s else hostGrant s
    | some _, none => hostGrant s
    | none, some r => engineGrant r s
    | none, none => s

/-- A burst refresh: 1024 rows from the counter on, which comes back to where it began (R139). -/
def burstRefresh (s : State) : State :=
  s.updDram fun d => { d with refreshOwed := 0, refreshHeld := 0, refreshTimer := d.refreshInterval }

/-- The refresh timer has expired; it runs with the main oscillator, out of self-refresh (R137). -/
def refreshDue (s : State) : Bool := decide (s.dram.refreshTimer = 0) && !s.dram.selfRefresh && !slowBase s

/-- No host cycle, grant or request is left of those that step 2 serves, a refresh among them (R150). -/
def drained (s : State) : Bool :=
  s.bus.cycle.isNone && s.dram.grant.isNone && (firstEngine s.dram).isNone && !refreshWaits s

/-- The requests held through a sleep, posts of the CHAIN requester, are served in the order they were asked, each note after its write
(R151, R153). -/
def flushHeld (s : State) : State :=
  s.dram.held.foldl (fun s x => raiseIf x.note (engineTook (runXfer x s).2)) (s.updDram fun d => { d with held := [] })

/-! ## Transfers completed by the step that reports it -/

/-- A requester's grant in progress, if it is one of its first transfer, is over. -/
def grantOver (r : Requester) (g : Option Grant) : Option Grant :=
  match g with
  | some (.engine r' a b live) => if r' = r ∧ live then none else some (.engine r' a b live)
  | g => g

/-- A grant of the requester begun for a withdrawn transfer completes (R138); no other transfer of it moves before. -/
def deadDone (r : Requester) (s : State) : State :=
  match s.dram.grant with
  | some (.engine r' a b false) => if r' = r then (runBurst a b (s.updDram fun d => { d with grant := none })).2 else s
  | _ => s

/-- The first transfer of a requester makes all it has still to move, its grant in progress included. -/
def runHead (r : Requester) (x : Xfer) (rest : List Xfer) (s : State) : Xfer × State :=
  runXfer x ((deadDone r s).updDram fun d => { d.setQueue r rest with grant := grantOver r d.grant, hostTookLast := false })

/-- The bytes a finished read has brought. -/
def Xfer.bytes (x : Xfer) : List Byte :=
  match x.data with
  | .read _ got => got
  | .write _ => []

end Sys2Proof.Machine
end

