-- ==== Sys2Proof/Machine/Modem.lean ====
section
/-! DEFINITION. The modem link unit (chapter 6): frames, link state, handshakes, condition codes, SEND and RECEIVE records. -/

namespace Sys2Proof.Machine

def State.updSend (s : State) (w : Option SendWork) : State := s.updModem fun m => { m with sendWork := w }

/-! ## Ends of SEND and RECEIVE records -/

/-- The results of the SEND record in work (section 11.4). `elapsed` is the ms a CONDITION WAIT has waited. -/
def SendWork.results (code : BitVec 4) (elapsed : Nat) : SendWork → List (Nat × List Byte)
  | .block j => [(22, be16 j.sent), resultWord j.sent]
  | .mode c _ _ => [resultWord c.toNat]
  | .wait _ _ _ _ => [(16, be8 code.toNat), resultWord (min elapsed 4294967295)]

def SendWork.since : SendWork → Nat
  | .wait _ _ t _ => t
  | _ => 0

/-- The SEND record in work ends. A block's fetches and store end with it (R102); a wait's timer becomes idle. -/
def endSendAfter (o : RecordOutcome) (r : Reason) (elapsed : Nat) (s : State) : State :=
  match s.modem.sendWork with
  | none => s
  | some w =>
    let s := endRecord .send o r (w.results s.modem.code elapsed) s
    let s := match w with
      | .block _ =>
        (withdrawFrom .modem (fun t => t == Tag.sendFetch) s).updModem fun m => { m with store := [], fetching := 0 }
      | _ => s
    s.updModem fun m => { m with sendWork := none, waitTimer := none }

/-- The SEND record in work ends with the ms it has waited. DESIGN CHOICE (log entry 43): a MODE CHANGE or CONDITION WAIT that is TAKEN and
on which the unit has not acted yet is not ended here by a timeout, a fill limit, code 15 or the link going DOWN; it is refused or begins
at its own step. -/
def endSend (o : RecordOutcome) (r : Reason) (s : State) : State :=
  match s.modem.sendWork with
  | none => s
  | some w => endSendAfter o r (msSince s w.since) s

/-- The RECEIVE BUFFER ends with its count (R109). DESIGN CHOICE (log entry 65): bits 7 to 1 of the MESSAGE-END byte are 0. -/
def endReceive (o : RecordOutcome) (r : Reason) (messageEnd : Bool) (j : ReceiveJob) (s : State) : State :=
  let s := endRecord .receive o r [(18, be8 (if messageEnd then 1 else 0)), resultWord j.count] s
  s.updModem fun m => { m with receiveWork := none }

/-- The RECEIVE BUFFER ends at once, or when the write of the byte in the latch completes, with that byte counted (R96, R98, R110). DESIGN
CHOICE (log entries 53, 54): with the latch empty it ends at once though the handshake is ACKED; of two outcomes decided while a byte is
written the first stands. DESIGN CHOICE (log entry 43): a RECEIVE BUFFER whose own row has not come is not ended here. -/
def stopReceive (o : RecordOutcome) (r : Reason) (s : State) : State :=
  match s.modem.receiveWork with
  | none => s
  | some j =>
    if s.modem.latch.isNone then endReceive o r false j s
    else s.updModem fun m => { m with receiveWork := some { j with outcome := j.outcome <|> some (o, r) } }

/-! ## Abort, runs and underrun (R101, R103, R104) -/

/-- The unit enters ABORTING from any state; the run is closed (R101). DESIGN CHOICE (log entry 67): the fill count becomes 0 at every
entry, where R96, R104 and R112 set it to 0 only at an underrun's start, at the link going DOWN and at an engine reset. -/
def enterAborting (s : State) : State :=
  s.updModem fun m =>
    { m with send := .aborting 0, waited := 0, runOpen := false, underrun := false, fillCount := 0 }

/-- No SEND BLOCK is TAKEN: the SEND record in work, if any, is no block. -/
def noBlock (s : State) : Bool :=
  match (s.chain .send).taken with
  | some t => match t.stage with
    | .ending _ _ => true
    | _ => decide (t.kind ≠ .sendBlock)
  | none => true

/-- The handshake has become IDLE: with the run open and no SEND BLOCK TAKEN an underrun begins, its fill count 0, or the one that has
begun goes on (R103, R104). -/
def handshakeIdle (s : State) : State :=
  let s := s.updModem fun m => { m with send := .idle, waited := 0 }
  if s.modem.runOpen && noBlock s then
    s.updModem fun m => { m with underrun := true, fillCount := if m.underrun then m.fillCount else 0 }
  else s

/-! ## Frames (R95, R99) -/

def frameOctets (m : Modem) (quietLink : Bool) : Byte × Byte :=
  let (ov, ol, ab, data) := match m.send with
    | .offered b => (1, if b.last then 1 else 0, 0, b.byte)
    | .aborting _ => (0, 0, 1, 0#8)
    | _ => (0, 0, 0, 0#8)
  if quietLink then (BitVec.ofNat 8 (m.mode.toNat * 16), 0#8)
  else (BitVec.ofNat 8 (m.mode.toNat * 16 + ov * 8 + ol * 4 + (if m.acked then 2 else 0) + ab), data)

/-- The link receiver runs on the pump's bit clock and answers with OV, OL, IA and AB at 0, from the stop of the main oscillator at sleep
entry until the host clock restarts (R111). -/
def linkAsleep (s : State) : Bool :=
  match s.power.state with
  | .active | .doze | .enteringSleep => false
  | .sleep | .waking => true

/-- Postings and notes of sensor, link and code changes are held back, from the beginning of a sleep entry to the end of the wake (R151). -/
def changesHeld (s : State) : Bool :=
  match s.power.state with
  | .active | .doze => false
  | .enteringSleep | .sleep | .waking => true

def offerByte (b : SendByte) (s : State) : State := s.updModem fun m => { m with send := .offered b, waited := 0 }

/-- An offer at a frame sync in IDLE (R99, R102, R104). -/
def makeOffer (s : State) : State :=
  match s.modem.send with
  | .idle =>
    match s.modem.sendWork with
    | some (.block j) =>
      match s.modem.store with
      | b :: rest =>
        let s := offerByte { byte := b, fill := false, last := j.last && decide (j.offered + 1 = j.count), spent := false } s
        s.updModem fun m =>
          { m with
            store := rest, runOpen := true, underrun := false
            mode := if j.offered = 0 then j.mode else m.mode
            sendWork := some (.block { j with offered := j.offered + 1 }) }
      | [] => s
    | _ =>
      if s.modem.underrun && s.modem.fillOk && noBlock s then
        offerByte { byte := s.modem.fillByte, fill := true, last := false, spent := false } s
      else s
  | _ => s

/-- The block's next fetch: one burst, inside one DRAM page and the buffer, that the 16-byte store has room for (R102). -/
def fetchSend (s : State) : State :=
  match s.modem.sendWork with
  | some (.block j) =>
    let a := j.addr + j.fetched
    let page := s.dram.installed / 1024
    let n := min (min (16 - s.modem.store.length) (j.count - j.fetched)) (page - a % page)
    if s.modem.fetching = 0 ∧ 0 < n then
      let s := askRead .modem .sendFetch a n s
      s.updModem fun m => { m with fetching := n, sendWork := some (.block { j with fetched := j.fetched + n }) }
    else s
  | _ => s

/-- The full time of the link timer in the time base that runs: 16 ms of ticks, or 525 periods (R96). -/
def linkFull (s : State) : Nat :=
  match s.power.state with
  | .sleep | .waking => 525
  | _ => 16000

/-- The link state is written to the status block (R96). -/
def postLink (up : Bool) (s : State) : State :=
  if posting s then
    (post 163 (be8 (if up then 1 else 0)) none s).updModem fun m => { m with postedUp := up }
  else s

/-- A frame sync (R95, R96): the link is UP, its timer restarts, an unfinished frame is abandoned, the two octets are formed. -/
def beginFrame (s : State) : State :=
  let s := if s.modem.linkUp then s
    else
      let s := s.updModem fun m => { m with linkUp := true }
      if changesHeld s then s else postLink true s
  let s := s.updModem fun m => { m with linkTimer := some (linkFull s) }
  let s := if linkAsleep s then s else makeOffer s
  s.updModem fun m =>
    let octets := frameOctets m (linkAsleep s)
    { m with
      frame := some octets
      sendWork := match m.sendWork with
        | some (.mode c n _) => some (.mode c n (decide (octets.1.toNat / 16 = c.toNat)))
        | w => w }

/-! ## The link going DOWN (R96) -/

/-- The reset abort's end sets mode code 0, unless a MODE CHANGE has set its code since (R112). -/
def endResetAbort (m : Modem) : Modem := if m.resetAbort then { m with mode := 0, resetAbort := false } else m

/-- The link goes DOWN (R96). DESIGN CHOICE (log entry 63): the writes are asked for in the order end of the SEND record, end of the RECEIVE
BUFFER, link state, fault code. -/
def linkDown (s : State) : State :=
  let s := s.updModem fun m => { m with linkUp := false, linkTimer := none, candidate := none }
  let s := stopReceive .failed .linkDown (endSend .failed .linkDown s)
  let s := s.updModem fun m =>
    endResetAbort
      { m with
        send := .idle, waited := 0, runOpen := false, underrun := false, fillCount := 0, acked := false
        holdActive := false, holdTimer := none }
  if changesHeld s then s else postFault .linkDown (postLink false s)

/-! ## Reports (R97 to R101, R104, R105, R107, R108) -/

def blockResult : List (Nat × List Byte) := [(22, be16 0), resultWord 0]

/-- The TAKEN SEND BLOCK ends FAILED, whether it has begun or has only been handed over (R100). DESIGN CHOICE (log entry 68): one only
handed over, its own row not yet come, ends so before its fields are checked (R102). -/
def failBlock (r : Reason) (s : State) : State :=
  match s.modem.sendWork with
  | some _ => endSend .failed r s
  | none => endRecord .send .failed r blockResult s

/-- A handshake timeout (R100). The record of a block's byte is the TAKEN one unless the byte is spent; then the next block of a run left
open, if TAKEN, is affected. -/
def handshakeTimeout (b : SendByte) (s : State) : State :=
  let wasOpen := s.modem.runOpen
  let s := enterAborting s
  if b.fill then
    let s := postFault .modemTimeout s
    if noBlock s then endSend .failed .modemTimeout s else s
  else if !noBlock s && (!b.spent || wasOpen) then failBlock .modemTimeout s
  else postFault .modemTimeout s

def countWaited (b : SendByte) (s : State) : State :=
  let s := s.updModem fun m => { m with waited := m.waited + 1 }
  if s.modem.ackLimit < s.modem.waited then handshakeTimeout b s else s

/-- An acknowledged fill byte (R104). -/
def fillAcked (s : State) : State :=
  let s := s.updModem fun m => { m with fillCount := m.fillCount + 1, fillTotal := m.fillTotal + 1 }
  let s := postStatus 24 (be32 s.modem.fillTotal.toNat) s
  if noBlock s && decide (s.modem.fillLimit ≤ s.modem.fillCount) then
    let s := postFault .underrunAbort (enterAborting s)
    endSend .failed .underrunAbort s
  else s

/-- An acknowledged block byte `b`; the last one ends the record DONE and leaves the run open or closes it (R102, R103). -/
def blockAcked (b : SendByte) (s : State) : State :=
  match s.modem.sendWork with
  | some (.block j) =>
    let j := { j with sent := j.sent + 1 }
    let s := s.updSend (some (.block j))
    if j.count ≤ j.sent then
      let s := endSend .done .none s
      s.updModem fun m =>
        { m with runOpen := !j.last, fillOk := j.fillOk, fillByte := j.fillByte, send := .retracting { b with spent := true } }
    else s
  | _ => s

/-- The send handshake at a report (R99 to R101). -/
def sendReport (oa ab : Bool) (s : State) : State :=
  match s.modem.send with
  | .idle => s
  | .offered b =>
    if oa then
      let s := s.updModem fun m => { m with send := .retracting b, waited := 0 }
      if b.fill then fillAcked s else blockAcked b s
    else countWaited b s
  | .retracting b => if oa then countWaited b s else handshakeIdle s
  | .aborting n =>
    if ¬ ab then s
    else if n + 1 < 4 then s.updModem fun m => { m with send := .aborting (n + 1) }
    else handshakeIdle (s.updModem endResetAbort)

/-- A MODE CHANGE counts the frames that carried its code to their end (R105). -/
def countModeFrame (s : State) : State :=
  match s.modem.sendWork with
  | some (.mode c n true) =>
    if n + 1 < 2 then s.updSend (some (.mode c (n + 1) false)) else endSend .done .none s
  | _ => s

/-- The receive handshake at a report (R107, R108, R111). DESIGN CHOICE (log entry 72): while a RECEIVE BUFFER's own row has not come, IA is
withheld and no hold begins; once its outcome is handed over, one may. -/
def receiveReport (iv il : Bool) (data : Byte) (s : State) : State :=
  if s.modem.acked then (if iv then s else s.updModem fun m => { m with acked := false })
  else if ¬ iv then s.updModem fun m => { m with holdActive := false, holdTimer := none }
  else if linkAsleep s then s
  else match s.modem.receiveWork with
    | some j =>
      if s.power.state = .doze then toActive s
      else if s.modem.latch.isSome then s
      else
        let s := ask .modem { tag := .receive, addr := j.addr + j.count, data := .write [data], note := none } s
        s.updModem fun m =>
          { m with
            latch := some (data, il), acked := true, holdActive := false, holdTimer := none
            receiveWork := some { j with count := j.count + 1 } }
    | none =>
      if s.modem.holdActive ∨ ¬ s.isRunning ∨ (inWork s .receive).isSome then s
      else s.updModem fun m =>
        { m with holdActive := true, holdTimer := if m.holdLimitMs = 0 then none else some (m.holdLimitMs * 1000) }

/-- RING: the bit of the wake mask and causes (section 11.2). -/
def wakeRing : BitVec 5 := 1#5

/-- A wake event taken in ENTERING-SLEEP, SLEEP or WAKING, if its source is in the mask (R151 to R153). In SLEEP it begins WAKING. -/
def wakeEvent (source : BitVec 5) (s : State) : State :=
  if s.regs.wakeMask &&& source = 0 then s
  else
    let s := s.updPower fun p => { p with pendingCauses := p.pendingCauses ||| source }
    if s.power.state = .sleep then
      s.updPower fun p => { p with state := .waking, wakeTimer := none, oscTimer := some 128 }
    else s

/-- The accepted code is written to the status block, and CONDITION follows (R97). -/
def postCode (s : State) : State :=
  if posting s then
    (post 164 (be8 s.modem.code.toNat) (some .condition) s).updModem fun m => { m with postedCode := m.code }
  else s

/-- A CONDITION WAIT matches when the code ANDed with the mask equals the value (R106). -/
def conditionMatches (mask value code : BitVec 4) : Bool := code &&& mask = value

/-- Acceptance of code 15 (R98): a CONDITION WAIT that it satisfies has ended DONE already. DESIGN CHOICE (log entry
63): the SEND record ends before the RECEIVE BUFFER. -/
def modemFault (s : State) : State :=
  let s := endSend .failed .modemFault s
  let s := stopReceive .failed .modemFault s
  let busy := match s.modem.send with
    | .offered _ | .retracting _ => true
    | _ => false
  if busy || s.modem.runOpen then enterAborting s else s

/-- A new code is accepted (R97): posted and noted, handed to the wait, the power unit and the MODEM FAULT handling. While changes are
held back the posting and its note wait (R111), and the rest is as ever (R98). -/
def acceptCode (code : BitVec 4) (s : State) : State :=
  let s := s.updModem fun m => { m with code := code, candidate := none }
  if changesHeld s then (if code = 1 then wakeEvent wakeRing s else if code = 15 then modemFault s else s)
  else
    let s := postCode (toActive s)
    let s := match s.modem.sendWork with
      | some (.wait mask value _ _) => if conditionMatches mask value code then endSend .done .none s else s
      | _ => s
    if code = 15 then modemFault s else s

/-- The condition code at a report (R97). -/
def codeReport (code : BitVec 4) (s : State) : State :=
  if code = s.modem.code then s.updModem fun m => { m with candidate := none }
  else if s.modem.candidate = some code then acceptCode code s
  else s.updModem fun m => { m with candidate := some code }

/-- A frame's end: the report is acted on in the order of R95. A report without a frame in progress is not taken. DESIGN CHOICE (log entry
44): a MODE CHANGE's frame end is counted after the send handshake and before the receive handshake and the condition code. DESIGN CHOICE
(log entry 71): the link timer, which R95 names first, has nothing to do; one at 0 waits for its own row. -/
def frameEnd (report data : Byte) (s : State) : State :=
  match s.modem.frame with
  | none => s
  | some (octet, _) =>
    let s := s.updModem fun m => { m with frame := none }
    let s := if linkAsleep s then s else countModeFrame (sendReport (report.getLsbD 1) (octet.getLsbD 0) s)
    let s := receiveReport (report.getLsbD 3) (report.getLsbD 2) data s
    codeReport (report.extractLsb' 4 4) s

/-! ## Records taken (R96, R98, R102, R105, R106, R109) -/

/-- The SEND record is refused before it begins: its field check, the link, code 15. -/
def rejectSend (r : Reason) (results : List (Nat × List Byte)) (s : State) : State := endRecord .send .failed r results s

def rejectReceive (r : Reason) (s : State) : State :=
  endRecord .receive .failed r [(18, be8 0), resultWord 0] s

def modeResult (code : Nat) : List (Nat × List Byte) := [resultWord code]

def waitResult (s : State) : List (Nat × List Byte) := [(16, be8 s.modem.code.toNat), resultWord 0]

/-- A SEND BLOCK begins: an underrun ends, its bytes are fetched (R102, R103). -/
def startBlock (j : SendBlockJob) (s : State) : State :=
  fetchSend (s.updModem fun m => { m with underrun := false, store := [], fetching := 0, sendWork := some (.block j) })

/-- A MODE CHANGE sets the mode code in force when it is taken (R105). -/
def startMode (code : BitVec 4) (s : State) : State :=
  s.updModem fun m => { m with mode := code, resetAbort := false, sendWork := some (.mode code 0 false) }

/-- A CONDITION WAIT ends at once on a match, else waits with its timeout (R106). -/
def startWait (mask value : BitVec 4) (timeoutMs : Nat) (s : State) : State :=
  if conditionMatches mask value s.modem.code then endRecord .send .done .none (waitResult s) s
  else s.updModem fun m =>
    { m with sendWork := some (.wait mask value s.now timeoutMs), waitTimer := if timeoutMs = 0 then none else some (timeoutMs * 1000) }

/-! ## Completions, cut and reset (R102, R107, R109, R110, R112) -/

/-- A fetched burst arrives in the send store (R102). -/
def sendArrived (bytes : List Byte) (s : State) : State :=
  fetchSend (s.updModem fun m => { m with store := m.store ++ bytes, fetching := 0 })

/-- The write from the receive latch has completed (R107, R109). -/
def receiveDone (s : State) : State :=
  match s.modem.latch with
  | none => s
  | some (_, il) =>
    let s := s.updModem fun m => { m with latch := none }
    match s.modem.receiveWork with
    | none => s
    | some j =>
      match j.outcome with
      | some (o, r) => endReceive o r false j s
      | none => if il || decide (j.length ≤ j.count) then endReceive .done .none il j s else s

/-- A cut of a SEND record (R110). -/
def cutSend (s : State) : State :=
  match s.modem.sendWork with
  | some (.block _) => endSend .cut .cutByHost (enterAborting s)
  | some _ => endSend .cut .cutByHost s
  | none => s

def cutReceive (s : State) : State := stopReceive .cut .cutByHost s

/-- Engine reset of the link unit (R112). A receive write already granted completes. -/
def modemReset (s : State) : State :=
  (withdrawAll .modem s).updModem fun m =>
    let m :=
      { m with
        runOpen := false, underrun := false, fillCount := 0, store := [], fetching := 0, latch := none
        holdActive := false, holdTimer := none, waitTimer := none, waited := 0, sendWork := none, receiveWork := none }
    if m.linkUp then { m with send := .aborting 0, resetAbort := true } else { m with send := .idle, mode := 0, resetAbort := false }

end Sys2Proof.Machine
end

