-- ==== Sys2Proof/Machine/MotionUnit.lean ====
section
/-! DEFINITION. The motion records on their channels (R27, R31 to R37) and the motion unit's resets (R41). -/

namespace Sys2Proof.Machine

/-! ## Results (section 11.4) -/

def moveResults (top steps : Nat) (position : Position) : List (Nat × List Byte) :=
  [(17, be8 top), (20, be32 position.toNat), resultWord steps]

def edgeResults (top before after asked : Nat) (position : Position) : List (Nat × List Byte) :=
  [(21, be8 top), (22, be16 after), (24, be16 (after - asked)), (28, be32 position.toNat), resultWord before]

/-- The results of a motion record as they stand, with the top it used (R31 to R35). DESIGN CHOICE (log entry 41): a MOVE TO EDGE that ends
by a cut or by a cover opening before any edge has all its steps as steps before the edge, and 0 after it. -/
def MotionJob.results (j : MotionJob) (s : State) (c : Channel) : List (Nat × List Byte) :=
  match j.request, j.phase with
  | .move _ _ _ _, .waitOwner => moveResults (unstated s) 0 (BitVec.ofNat 32 (unstated s))
  | .move _ _ top _, _ => moveResults (c.table.clampTop top) c.issued c.position
  | .edge e, .waitOwner => edgeResults (unstated s) 0 0 e.after (BitVec.ofNat 32 (unstated s))
  | .edge e, .afterEdge b => edgeResults (c.table.clampTop e.top) b (c.issued - b) e.after c.position
  | .edge e, _ => edgeResults (c.table.clampTop e.top) c.issued 0 e.after c.position
  | .wait _ _ _, .waiting t => [resultWord (min (msSince s t) 4294967295)]
  | _, _ => [resultWord 0]

/-! ## Ends -/

/-- A motion record ends with the results given; its job and timeout go. -/
def finishMotion (c : ChannelId) (o : RecordOutcome) (r : Reason) (results : List (Nat × List Byte)) (s : State) : State :=
  ((endRecord (motionChain c) o r results s).setJob c none).setWaitTimer c none

/-- A record that ends at rest is CUT if its cut is pending, else as given (R31, R33, R37). -/
def cutOr (c : ChannelId) (o : RecordOutcome) (r : Reason) (s : State) : RecordOutcome × Reason :=
  if (s.chain (motionChain c)).cutPending then (.cut, .cutByHost) else (o, r)

def MotionRequest.action : MotionRequest → EndAction
  | .move _ _ _ a => a
  | .edge e => e.action
  | _ => .keepHold

/-- The profile of a motion record has reached rest: end action, then the end (R25, R31 to R33, R37). -/
def restMotion (c : ChannelId) (j : MotionJob) (s : State) : State :=
  let ch := s.channel c
  let results := j.results s ch
  let s := putChannel c (ch.endAction j.request.action) s
  let (o, r) := match j.phase with
    | .search => cutOr c .failed .noEdge s
    | _ => cutOr c .done .none s
  finishMotion c o r results s

/-! ## Taking the channel (R27) -/

/-- The record carries out its kind on the channel it has just taken (R31 to R36). The top used of a MOVE or MOVE TO EDGE that takes its
channel under an open cover is a free value (R40, log entry 5). DEDUCED (log entry 66): one that finds the edge before any step and asks
for none after it reports its top clamped. -/
def carryOut (c : ChannelId) (j : MotionJob) (s : State) : State :=
  let ch := s.channel c
  let openCover := s.level .coverOpen
  match j.request with
  | .move n fwd top _ =>
    let j := { j with phase := .running }
    if openCover then finishMotion c .failed .coverOpen (moveResults (unstated s) 0 ch.position) (bumpFree s)
    else (putChannel c (ch.begin s.now n fwd top) s).setJob c (some j)
  | .edge e =>
    if openCover then finishMotion c .failed .coverOpen (edgeResults (unstated s) 0 0 e.after ch.position) (bumpFree s)
    else if s.level e.sensor = e.target then
      if e.after = 0 then
        finishMotion c .done .none (edgeResults (ch.table.clampTop e.top) 0 0 0 ch.position)
          (putChannel c (ch.endAction e.action) s)
      else (putChannel c (ch.begin s.now e.after e.forward e.top) s).setJob c (some { j with phase := .afterEdge 0 })
    else (putChannel c (ch.begin s.now e.limit e.forward e.top) s).setJob c (some { j with phase := .search })
  | .hold =>
    if openCover then finishMotion c .failed .coverOpen [resultWord 0] s
    else finishMotion c .done .none [resultWord 0] (putChannel c { ch with state := .holding, holdTimer := none } s)
  | .release => finishMotion c .done .none [resultWord 0] (putChannel c { ch with state := .off, holdTimer := none } s)
  | .wait n level ms =>
    if s.level n = level then finishMotion c .done .none [resultWord 0] s
    else (s.setJob c (some { j with phase := .waiting s.now })).setWaitTimer c
      (if ms = 0 then none else some (ms * 1000))
  | .table t => finishMotion c .done .none [resultWord 0] (s.updChannel c fun ch => { ch with table := t })

/-- A motion record in WAIT-OWNER takes the channel when its owner is NONE or CHAIN (R27). -/
def takeMotion (c : ChannelId) (s : State) : State :=
  match s.job c with
  | none => s
  | some j =>
    let ch := s.channel c
    if j.phase = .waitOwner ∧ (ch.owner = .none ∨ ch.owner = .chain) then
      carryOut c j (putChannel c { ch with owner := .chain } s)
    else s

/-! ## Steps -/

def motionStep (c : ChannelId) (j : MotionJob) (s : State) : State :=
  let s := putChannel c ((s.channel c).issue s.now false) s
  if (s.channel c).resting then restMotion c j s else s

def MotionPhase.runs : MotionPhase → Bool
  | .running | .search | .afterEdge _ => true
  | _ => false

/-- Step 1 of a profile is issued at its start when no wait is left (R23). -/
def motionKick (c : ChannelId) (s : State) : State :=
  match s.job c with
  | none => s
  | some j =>
    let ch := s.channel c
    if ch.owner = .chain ∧ j.phase.runs ∧ ch.stepDue = some 0 ∧ ch.issued = 0 then motionStep c j s else s

def motionSettle (s : State) : State :=
  motionKick .p (takeMotion .p (motionKick .d (takeMotion .d s)))

/-! ## Edges, waits, cut, cover (R32, R35, R37, R40) -/

/-- A sensor's accepted level has become `level`: edge searches and sensor waits of one channel (R32, R35). DESIGN CHOICE (log entry 40):
an edge accepted while a search that was cut decelerates fixes the run's end by R32 as any other edge does. -/
def motionSensed (c : ChannelId) (n : Sensor) (level : Bool) (s : State) : State :=
  match s.job c with
  | none => s
  | some j =>
    match j.request, j.phase with
    | .edge e, .search =>
      if e.sensor = n ∧ e.target = level then
        let ch := s.channel c
        let ch := ch.runOut (max e.after (stopSteps ch.ramp)) (decide (stopSteps ch.ramp < e.after))
        let j := { j with phase := .afterEdge ch.issued }
        putRunOut c ch (restMotion c j) (s.setJob c (some j))
      else s
    | .wait m want _, .waiting _ =>
      if m = n ∧ want = level then finishMotion c .done .none (j.results s (s.channel c)) s else s
    | _, _ => s

/-- A cut of a motion record (R37). -/
def cutMotion (c : ChannelId) (s : State) : State :=
  match s.job c with
  | none => s
  | some j =>
    match j.phase with
    | .waitOwner => finishMotion c .cut .cutByHost (j.results s (s.channel c)) (bumpFree s)
    | .waiting _ => finishMotion c .cut .cutByHost (j.results s (s.channel c)) s
    | .running | .search | .afterEdge _ => putRunOut c (s.channel c).stopRequest (restMotion c j) s

/-- A SENSOR WAIT's timeout (R35): the ms waited are the timeout's. -/
def waitExpired (c : ChannelId) (s : State) : State :=
  match s.job c with
  | some { request := .wait _ _ ms, phase := .waiting _ } => finishMotion c .failed .sensorTimeout [resultWord ms] s
  | _ => s

/-- COVER-OPEN became OPEN: the channel is forced OFF, and a MOVE or MOVE TO EDGE in its profile ends FAILED COVER-OPEN (R40). -/
def coverChannel (c : ChannelId) (s : State) : State :=
  let ch := s.channel c
  let s' := putChannel c ch.forceOff s
  match s.job c with
  | some j => if j.phase.runs then finishMotion c .failed .coverOpen (j.results s ch) s' else s'
  | none => s'

/-- Engine reset of both channels and their records (R41); nothing is posted. -/
def motionReset (s : State) : State :=
  s.updMotion fun m =>
    { m with d := m.d.engineReset, p := m.p.engineReset, jobD := none, jobP := none, waitD := none, waitP := none }

/-- A channel's timed hold has run out (R25): OFF, the owner as it was. -/
def holdExpired (c : ChannelId) (s : State) : State :=
  let ch := s.channel c
  if ch.holdTimer = some 0 ∧ ch.state = .holding then putChannel c { ch with state := .off, holdTimer := none } s else s

end Sys2Proof.Machine
end

