-- ==== Sys2Proof/Machine/Head.lean ====
section
/-! DEFINITION. Head energy control (chapter 5): the plan of a line and the energize sequence. -/

namespace Sys2Proof.Machine

/-! ## Base pulse and durations (R88, R89) -/

/-- The table interpolated at a temperature code, before clamping (R88). -/
def interpolate (e : List Nat) (t : Nat) : Int :=
  let i := t / 16
  let f := t % 16
  let lo : Int := e.getD i 0
  if i < 15 then lo + (((e.getD (i + 1) 0 : Int) - lo) * f + 8) / 16 else (e.getD 15 0 : Int)

/-- The base pulse in µs (R88). -/
def basePulse (h : HeatTable) (t : Nat) : Nat :=
  let v := interpolate h.energy t
  if v < h.minPulse then h.minPulse else if (h.maxPulse : Int) < v then h.maxPulse else v.toNat

/-- rnd(k) of R89. -/
def shareOf (base k : Nat) : Nat := (base * k + 8) / 16

def durationA (h : HeatTable) (base : Nat) : Nat := shareOf base h.kHot

def durationB (h : HeatTable) (base : Nat) : Nat := shareOf base h.kWarm - shareOf base h.kHot

def durationC (h : HeatTable) (base : Nat) : Nat := base - shareOf base h.kWarm

/-! ## Patterns (R90) -/

def patternB (l h1 h2 : Line) : Line := l &&& ~~~(h1 &&& h2)

def patternC (l h1 : Line) : Line := l &&& ~~~h1

/-! ## Strobe groups (R91) -/

/-- The black dots of a line in strobe block b. -/
def blockDots (l : Line) (b : Nat) : Nat :=
  let part := l >>> (216 * (7 - b))
  ((List.range 216).filter fun i => part.getLsbD i).length

def closeGroup (cur : Option (Nat × Nat × Nat)) : List (Nat × Nat) :=
  match cur with
  | none => []
  | some (first, blocks, _) => [(first, blocks)]

/-- The greedy walk: groups as first block and number of blocks (R91). -/
def groupWalk (limit : Nat) : List (Nat × Nat) → Option (Nat × Nat × Nat) → List (Nat × Nat)
  | [], cur => closeGroup cur
  | (b, n) :: rest, cur =>
    if limit < n then closeGroup cur ++ (b, 1) :: groupWalk limit rest none
    else match cur with
      | none => groupWalk limit rest (some (b, 1, n))
      | some (first, blocks, count) =>
        if count + n ≤ limit then groupWalk limit rest (some (first, blocks + 1, count + n))
        else (first, blocks) :: groupWalk limit rest (some (b, 1, n))

def dotsIn (l : Line) (first blocks : Nat) : Nat :=
  ((List.range blocks).map fun i => blockDots l (first + i)).sum

def Group.dots (g : Group) : HeatKind → Nat
  | .a => g.dotsA | .b => g.dotsB | .c => g.dotsC

def Plan.duration (p : Plan) : HeatKind → Nat
  | .a => p.durA | .b => p.durB | .c => p.durC

def Plan.pattern (p : Plan) : HeatKind → Line
  | .a => p.lineA | .b => p.lineB | .c => p.lineC

/-- The groups that hold at least one black dot of a kind; n_X is their number (R91, R93). -/
def Plan.groupsOf (p : Plan) (k : HeatKind) : List Group := p.groups.filter fun g => decide (0 < g.dots k)

/-- A kind is run only if n_X and d_X are above 0 (R92). -/
def Plan.runs (p : Plan) (k : HeatKind) : Bool := !(p.groupsOf k).isEmpty && decide (0 < p.duration k)

/-- The plan of a line, in the order the print unit computes it (R88 to R92). -/
def makePlan (h : HeatTable) (t : Nat) (l h1 h2 : Line) : Plan :=
  let base := basePulse h t
  let b := patternB l h1 h2
  let c := patternC l h1
  let counts := (List.range 8).map fun i => (i, blockDots l i)
  let groups := (groupWalk h.dotLimit counts none).map fun g =>
    { first := g.1, blocks := g.2, dotsA := dotsIn l g.1 g.2, dotsB := dotsIn b g.1 g.2, dotsC := dotsIn c g.1 g.2 : Group }
  let plan : Plan :=
    { base := base, durA := durationA h base, durB := durationB h base, durC := durationC h base
      lineA := l, lineB := b, lineC := c, groups := groups
      overLines := if counts.any fun n => decide (h.dotLimit < n.2) then 1 else 0
      kinds := [] }
  { plan with kinds := [HeatKind.a, .b, .c].filter plan.runs }

/-! ## The energize sequence (R93) -/

/-- The shift time Sh in µs (R93). -/
def shiftTime (h : HeatTable) : Nat := 1728 / h.clockMHz

/-- The next kind's load begins. -/
def Sequence.loadNext (sh : Nat) (q : Sequence) : Sequence :=
  match q.todo with
  | [] => { q with shifting := none, loadTimer := none }
  | k :: rest => { q with todo := rest, shifting := some k, loadTimer := some sh }

/-- The sequence as it begins at t_k: the first kind's load. None if every kind is skipped. -/
def Sequence.start (sh : Nat) (p : Plan) : Option Sequence :=
  match p.kinds with
  | [] => none
  | ks =>
    some (Sequence.loadNext sh
      { plan := p, todo := ks, shifting := none, loadTimer := none, loaded := none, firing := none, left := []
        fireTimer := none, pulse := false })

/-- A kind is latched: its energize begins and the next kind's load starts. -/
def Sequence.latch (sh : Nat) (k : HeatKind) (q : Sequence) : Sequence :=
  { q with loaded := none, firing := some k, left := q.plan.groupsOf k, fireTimer := some (q.plan.duration k)
           pulse := true }.loadNext sh

/-- A kind's load has ended: it is latched unless the energize before it still runs. -/
def Sequence.loadEnd (sh : Nat) (q : Sequence) : Sequence :=
  match q.shifting with
  | none => q
  | some k =>
    let q := { q with shifting := none, loadTimer := none }
    if q.firing = none then q.latch sh k else { q with loaded := some k }

/-- A group's energize has ended. -/
def Sequence.groupEnd (sh : Nat) (q : Sequence) : Sequence :=
  match q.firing with
  | none => q
  | some k =>
    match q.left with
    | _ :: g :: rest => { q with left := g :: rest, fireTimer := some (q.plan.duration k) }
    | _ =>
      let q := { q with firing := none, left := [], fireTimer := none }
      match q.loaded with
      | some k' => q.latch sh k'
      | none => q

/-- Every kind has been energized. -/
def Sequence.finished (q : Sequence) : Bool :=
  q.firing.isNone && q.shifting.isNone && q.loaded.isNone && q.todo.isEmpty

/-- The µs of the load in progress that have passed. -/
def Sequence.shifted (sh : Nat) (q : Sequence) : Nat := sh - q.loadTimer.getD 0

/-- The strobe blocks active now (R93, R94). -/
def Sequence.strobes (q : Sequence) : List Nat :=
  match q.firing, q.left with
  | some _, g :: _ => (List.range g.blocks).map fun i => g.first + i
  | _, _ => []

/-- The head's outputs in one µs (R93, R94): whether the head clock runs, the levels of head data in its periods, the latch pulse and
the strobe blocks active. -/
structure HeadOutputs where
  clock : Bool
  data : List Bool
  latch : Bool
  strobes : List Nat
  deriving DecidableEq, Repr

/-- Clock and latch inactive, head data 0, no strobe: an idle sequence (R94) and sleep (R150). -/
def HeadOutputs.idle : HeadOutputs := { clock := false, data := [false], latch := false, strobes := [] }

/-- The dots that a load shifts in during the µs that begins: as many as the head clock has MHz, dot 0 first, 1 for black (R93). -/
def shiftedDots (clockMHz done : Nat) (pattern : Line) : List Bool :=
  (List.range clockMHz).map fun i => pattern.dot (clockMHz * done + i)

/-- The head's outputs of a sequence. DESIGN CHOICE (log entry 52): between a load's end and the next load the head clock is stopped and
head data is 0. -/
def Sequence.outputs (h : HeatTable) (q : Sequence) : HeadOutputs :=
  { clock := q.shifting.isSome
    data := match q.shifting with
      | some k => shiftedDots h.clockMHz (q.shifted (shiftTime h)) (q.plan.pattern k)
      | none => [false]
    latch := q.pulse, strobes := q.strobes }

/-- The head's outputs (R93, R94): they change only while a line's sequence runs, which is while the head supply is ON. -/
def headOutputs (s : State) : HeadOutputs :=
  match s.print.sequence with
  | some q => if s.print.supply = .on then q.outputs s.print.heat else HeadOutputs.idle
  | none => HeadOutputs.idle

end Sys2Proof.Machine
end

