-- ==== Sys2Proof/Machine/Print.lean ====
section
/-! DEFINITION. The print unit (chapter 4): head supply, PRINT PAGE, sourcing, the line cycle, waits and ends. -/

namespace Sys2Proof.Machine

def State.updPrintJob (s : State) (j : PrintJob) : State := s.updPrint fun u => { u with work := some j }

/-! ## The head supply (R65, R66) and temperature sampling (R85) -/

/-- A change of supply state, with its timers, posted while the engine is RUNNING (R66). Becoming ON clears the sample flag and
begins a conversion; leaving ON abandons it (R85). -/
def setSupply (st : SupplyState) (settle linger : Option Nat) (s : State) : State :=
  let old := s.print.supply
  let s := s.updPrint fun u =>
    { u with
      supply := st, settleTimer := settle, lingerTimer := linger
      tempFlag := if st = old then u.tempFlag else false
      convTimer := if st = .on then (if old = .on then u.convTimer else some 1000) else none }
  if st = old then s else postStatus 10 (be8 st.code) s

/-- A PRINT PAGE enters SUPPLY-SETTLE (R65). -/
def supplyUp (s : State) : State :=
  match s.print.supply with
  | .off =>
    let ms := s.print.heat.settleMs
    if ms = 0 then setSupply .on none none s else setSupply .settling (some (ms * 1000)) none s
  | .linger => setSupply .on none none s
  | .settling | .on => s

/-- The record that switched the supply on ends (R65). -/
def supplyDown (s : State) : State :=
  match s.print.supply with
  | .on =>
    let sec := s.print.heat.lingerS
    if sec = 0 then setSupply .off none none s else setSupply .linger none (some (sec * 1000000)) s
  | .settling => setSupply .off none none s
  | .off | .linger => s

/-! ## Ends (R81) -/

/-- The results of a PRINT PAGE (R81, section 11.4). -/
def PrintJob.results (j : PrintJob) : List (Nat × List Byte) :=
  [(38, be16 j.waits), (40, be16 j.overLimit), (42, be8 j.highest), (43, be8 j.top), (44, be16 j.request.scale),
   (46, be16 j.interval), resultWord j.outputLines]

def PrintPhase.tookChannel : PrintPhase → Bool
  | .waitOwner => false
  | _ => true

def PrintPhase.reachedSupply : PrintPhase → Bool
  | .waitOwner | .waitPage => false
  | _ => true

/-- Empties the stores, the accumulator and every wait of the print unit (R81, R84). -/
def clearPrint (u : Print) : Print :=
  { u with
    accLine := 0, accProduct := 0, sourceStore := none, lineStore := none, fetch := .idle, printLine := none
    dueTimer := none, overheat := none, sequence := none, lateSample := none, work := none }

/-- Every end of a PRINT PAGE, in the order of R81. DESIGN CHOICE (log entry 61): the rest of a fetch in progress is withdrawn, whatever ends
the record. -/
def finishPrint (o : RecordOutcome) (r : Reason) (j : PrintJob) (s : State) : State :=
  let s := match j.request.source with
    | .page i => dropPrint i s
    | .lines _ _ _ => s
  let s := endRecord .print o r j.results s
  let s := if j.phase.tookChannel then putChannel .p s.motion.p.disown s else s
  let s := if j.phase.reachedSupply then supplyDown s else s
  (withdrawAll .print s).updPrint clearPrint

/-! ## Sourcing a line (R72, R73) -/

/-- The number of source lines, when it is known (R72). -/
def sourceLines (src : Source) (s : State) : Option Nat :=
  match src with
  | .lines _ _ n => some n
  | .page i =>
    let p := s.store.page i
    if p.state = .filling then none else some p.lines

/-- The source line of the next output line to be formed. -/
def nextSource (s : State) : Nat := s.print.accProduct / 256

def sourceReady (src : Source) (s : State) : Bool :=
  match src with
  | .lines _ _ n => decide (nextSource s < n)
  | .page i => decide (nextSource s < (s.store.page i).lines)

def sourceAddr (src : Source) (n : Nat) (s : State) : Nat :=
  match src with
  | .lines addr pitch _ => addr + pitch * n
  | .page i => s.store.lineAddr i n

/-- The stamp line of output line k, if it has one (R73). -/
def stampLine (r : PrintRequest) (k : Nat) : Option Nat :=
  match r.stamp with
  | none => none
  | some st => if st.offset ≤ k ∧ k < st.offset + st.count then some (st.area + 216 * (k - st.offset)) else none

/-- The output line is formed: source ORed with its stamp line (R72, R73). -/
def formLine (r : PrintRequest) (src stamp : Line) (s : State) : State :=
  s.updPrint fun u =>
    { u with
      lineStore := some (src ||| stamp), fetch := .idle
      accLine := u.accLine + 1, accProduct := u.accProduct + r.scale }

/-- The fetch of the next output line begins (R73). A fetch without a read completes at once. -/
def beginFetch (r : PrintRequest) (s : State) : State :=
  let n := nextSource s
  let stamp := stampLine r s.print.accLine
  match s.print.sourceStore, stamp with
  | some (m, l), none =>
    if m = n then formLine r l Line.white s
    else (askRead .print .source (sourceAddr r.source n s) 216 s).updPrint fun u =>
      { u with fetch := .reading true false }
  | some (m, _), some a =>
    if m = n then (askRead .print .stamp a 216 s).updPrint fun u => { u with fetch := .reading false true }
    else (askRead .print .stamp a 216 (askRead .print .source (sourceAddr r.source n s) 216 s)).updPrint fun u =>
      { u with fetch := .reading true true }
  | none, none =>
    (askRead .print .source (sourceAddr r.source n s) 216 s).updPrint fun u => { u with fetch := .reading true false }
  | none, some a =>
    (askRead .print .stamp a 216 (askRead .print .source (sourceAddr r.source n s) 216 s)).updPrint fun u =>
      { u with fetch := .reading true true }

/-- The next line's fetch begins, waits for its source, or is not made because output ends (R72 to R74). -/
def fetchNext (r : PrintRequest) (s : State) : State :=
  if sourceReady r.source s then beginFetch r s
  else match sourceLines r.source s with
    | none => s.updPrint fun u => { u with fetch := .waiting }
    | some _ => s.updPrint fun u => { u with fetch := .idle }

/-- Output ends: no line is formed and the next would take a source line at or beyond N, with N known (R72). -/
def outputEnded (j : PrintJob) (s : State) : Bool :=
  s.print.lineStore.isNone && (match s.print.fetch with
    | .reading _ _ => false
    | _ => true) && (match sourceLines j.request.source s with
    | none => false
    | some n => decide (n ≤ nextSource s))

/-- FEED-OUT (R81). -/
def enterFeedOut (j : PrintJob) (s : State) : State :=
  let s := s.updPrint fun u => { u with dueTimer := none }
  let j := { j with due := false, phase := .feedOut }
  if j.request.feedOut = 0 then finishPrint .done .none j s
  else (putChannel .p (s.motion.p.begin s.now j.request.feedOut true j.top) s).updPrintJob j

/-! ## The line cycle (R75 to R78) -/

/-- Line completion, with the line's over-limit count (R76). -/
def completeLine (overLines : Nat) (j : PrintJob) (s : State) : State :=
  let s := s.updPrint fun u =>
    { u with h2 := u.h1, h1 := u.printLine.getD Line.white, printLine := none, sequence := none
             overTotal := u.overTotal + BitVec.ofNat 32 overLines }
  let s := if overLines = 0 then s else postStatus 28 (be32 s.print.overTotal.toNat) s
  let n := j.outputLines + 1
  let j := { j with outputLines := n, overLimit := j.overLimit + overLines, lineActive := false, lastDone := some s.now }
  let s := s.updPrintJob j
  let s := match j.request.source with
    | .page i => reportPassed i (n * j.request.scale / 256) s
    | .lines _ _ _ => s
  let s := if n % 16 = 0 then postProgress .print 36 n s else s
  if (s.chain .print).cutPending then finishPrint .cut .cutByHost j s
  else s.updPrint fun u => { u with dueTimer := some (j.interval - (s.now - u.lineStart)) }

/-- The line's step has been issued: t_k (R75). The print line is fixed, the next fetch begins and the energize sequence starts;
a line whose kinds are all skipped completes at once (R76, R93). -/
def lineStepped (j : PrintJob) (s : State) : State :=
  let s := putChannel .p (s.motion.p.settle .holding none) s
  let l := s.print.lineStore.getD Line.white
  let plan := makePlan s.print.heat s.print.tempCode l s.print.h1 s.print.h2
  let s := s.updPrint fun u => { u with printLine := some l, lineStore := none, lineStart := s.now }
  let s := fetchNext j.request (s.updPrintJob j)
  match Sequence.start (shiftTime s.print.heat) plan with
  | some q => s.updPrint fun u => { u with sequence := some q }
  | none => completeLine plan.overLines j s

/-- The tests of a line start, in turn, and the start itself (R75, R78, R79, R80). -/
def startLine (j : PrintJob) (s : State) : State :=
  if (s.chain .print).cutPending then finishPrint .cut .cutByHost j s
  else if ¬ s.level .paperPresent then finishPrint .failed .paperOut j s
  else
    let j := { j with highest := max j.highest s.print.tempCode }
    if s.print.heat.tStop ≤ s.print.tempCode then
      (s.updPrint fun u => { u with overheat := some (u.heat.overheatS * 1000000) }).updPrintJob
        { j with phase := .heatWait, waits := j.waits + 1 }
    else
      let cold := match j.lastDone with
        | none => false
        | some t => decide (s.print.heat.coolMs * 1000 < s.now - t)
      let s := if cold then s.updPrint fun u => { u with h1 := Line.white, h2 := Line.white } else s
      (putChannel .p (s.motion.p.begin s.now 1 true 0) s).updPrintJob
        { j with phase := .printing, due := false, lineActive := true }

/-! ## Phases (R69 to R71, R74) -/

/-- The record leaves its wait for SUPPLY-SETTLE (R70, R71). -/
def enterSupplySettle (j : PrintJob) (s : State) : State :=
  let s := s.updPrint fun u =>
    { u with h1 := Line.white, h2 := Line.white, accLine := 0, accProduct := 0, sourceStore := none, lineStore := none
             fetch := .idle }
  let j := { j with phase := .supplySettle, outputLines := 0, waits := 0, overLimit := 0, highest := 0, lastDone := none }
  fetchNext j.request ((supplyUp s).updPrintJob j)

/-- The claim on channel P (R69). -/
def claimPrint (j : PrintJob) (s : State) : State :=
  if s.level .coverOpen then finishPrint .failed .coverOpen j s
  else
    let t := s.motion.p.table
    let j := { j with interval := max j.request.interval (t.interval 0), top := t.clampTop j.request.top, phase := .waitPage }
    let s := (putChannel .p (s.motion.p.claim .print none) s).updPrintJob j
    match j.request.source with
    | .page _ => s
    | .lines _ _ _ => enterSupplySettle j s

def printEnter (s : State) : State :=
  match s.print.work with
  | some j => if j.phase = .waitOwner ∧ s.motion.p.claimable then claimPrint j s else s
  | none => s

/-- WAIT-PAGE attaches when its page is not EMPTY (R10, R70). -/
def printAttach (s : State) : State :=
  match s.print.work with
  | some j =>
    match j.phase, j.request.source with
    | .waitPage, .page i =>
      let p := s.store.page i
      if p.state = .empty then s
      else if p.base = 0 then enterSupplySettle j (addPrint i s)
      else finishPrint .failed .pageBusy j s
    | _, _ => s
  | none => s

/-- SUPPLY-SETTLE is left when the supply is ON and a sample has completed (R71). DESIGN CHOICE (log entry 62): a paper-out end there leaves
a channel P that is OFF as it is. -/
def printSupply (s : State) : State :=
  match s.print.work with
  | some j =>
    if j.phase = .supplySettle ∧ s.print.supply = .on ∧ s.print.tempFlag then
      if ¬ s.level .paperPresent then finishPrint .failed .paperOut j s
      else if j.request.topMargin = 0 then
        let c := s.motion.p
        let s := if c.state = .off then putChannel .p (c.settle .holding none) s else s
        s.updPrintJob { j with phase := .printing, due := true }
      else
        (putChannel .p (s.motion.p.begin s.now j.request.topMargin true j.top) s).updPrintJob { j with phase := .topMargin }
    else s
  | none => s

/-- A fetch that waited for its source proceeds when the line is available (R74). -/
def printFetch (s : State) : State :=
  match s.print.work with
  | some j => if s.print.fetch = .waiting then fetchNext j.request s else s
  | none => s

/-- Output ends between lines (R72, R74, R81). -/
def printEnded (s : State) : State :=
  match s.print.work with
  | some j =>
    if (j.phase = .printing ∨ j.phase = .lineWait) ∧ ¬ j.lineActive ∧ outputEnded j s then enterFeedOut j s else s
  | none => s

/-- A due line starts once formed, or waits for its source in LINE-WAIT (R74, R75). -/
def printStart (s : State) : State :=
  match s.print.work with
  | some j =>
    if j.due ∧ (j.phase = .printing ∨ j.phase = .lineWait) then
      if s.print.lineStore.isSome then startLine j s
      else if s.print.fetch = .waiting ∧ j.phase = .printing then
        s.updPrintJob { j with phase := .lineWait, waits := j.waits + 1 }
      else s
    else s
  | none => s

/-! ## Steps of channel P under a print -/

def printStepped (j : PrintJob) (s : State) : State :=
  let c := s.motion.p
  match j.phase with
  | .topMargin =>
    if c.resting then
      let s := putChannel .p (c.settle .holding none) s
      if j.cutAtRest then finishPrint .cut .cutByHost j s
      else s.updPrintJob { j with phase := .printing, due := true }
    else s
  | .feedOut =>
    if c.resting then
      let s := putChannel .p (c.settle .holding none) s
      if j.cutAtRest then finishPrint .cut .cutByHost j s else finishPrint .done .none j s
    else s
  | .printing => if c.resting ∧ j.lineActive then lineStepped j s else s
  | .waitOwner | .waitPage | .supplySettle | .lineWait | .heatWait => s

def printStep (j : PrintJob) (s : State) : State :=
  printStepped j (putChannel .p (s.motion.p.issue s.now false) s)

def printKick (s : State) : State :=
  match s.print.work with
  | some j =>
    if s.motion.p.owner = .print ∧ s.motion.p.stepDue = some 0 ∧ s.motion.p.issued = 0 then printStep j s else s
  | none => s

/-- The print unit after an event: everything enabled at once happens. -/
def printSettle (s : State) : State :=
  let s := printSupply (printAttach (printEnter s))
  let s := printKick (printStart (printEnded (printFetch s)))
  printStart (printEnded s)

/-! ## Events (R79, R82, R83, R85) -/

/-- A temperature sample completes while the supply is ON (R85): the code, the flag, the next conversion; HEAT-WAIT compares it (R79). -/
def sampleDone (code : Nat) (s : State) : State :=
  let old := s.print.tempCode
  let s := s.updPrint fun u => { u with tempCode := code, tempFlag := true, convTimer := some 1000 }
  let s := if code = old then s else postStatus 5 (be8 code) s
  match s.print.work with
  | some j =>
    if j.phase = .heatWait then
      let j := { j with highest := max j.highest code }
      if code ≤ s.print.heat.tResume then
        startLine { j with phase := .printing } (s.updPrint fun u => { u with overheat := none })
      else s.updPrintJob j
    else s
  | none => s

/-- A cut of a PRINT PAGE at its safe point (R82). -/
def cutPrint (s : State) : State :=
  match s.print.work with
  | none => s
  | some j =>
    match j.phase with
    | .waitOwner | .waitPage | .supplySettle | .lineWait | .heatWait => finishPrint .cut .cutByHost j s
    | .topMargin | .feedOut =>
      let c := s.motion.p.stopRequest
      if c.resting then finishPrint .cut .cutByHost j (putChannel .p (c.settle .holding none) s)
      else (putChannel .p c s).updPrintJob { j with cutAtRest := true }
    | .printing => if j.lineActive then s else finishPrint .cut .cutByHost j s

/-- COVER-OPEN became OPEN while the print owns channel P; the channel and the supply are OFF already (R83). -/
def printCover (s : State) : State :=
  match s.print.work with
  | none => s
  | some j => if j.phase = .waitOwner then s else finishPrint .failed .coverOpen j s

/-- Engine reset of the print unit (R84); channel P is the motion unit's. -/
def printReset (s : State) : State :=
  let s := setSupply .off none none s
  ((withdrawAll .print s).updPrint clearPrint).updPrint fun u => { u with h1 := Line.white, h2 := Line.white }

end Sys2Proof.Machine
end

