-- ==== Sys2Proof/Machine/Power.lean ====
section
/-! DEFINITION. The power unit (chapter 9): DOZE, sleep entry, wake, and the settling of every unit after an event. -/

namespace Sys2Proof.Machine

/-! ## DOZE (R147) -/

def enterDoze (s : State) : State :=
  raiseNote .power
    (s.updPower fun p =>
      { p with state := .doze, idleTimer := 0, slot := if p.slot = .doze then .none else p.slot })

/-! ## Sleep entry (R150, R151) -/

/-- A count in progress begins again in the new time base (R38). -/
def SensorCell.restart (c : SensorCell) : SensorCell :=
  { c with count := if c.raw = c.accepted then none else some 0 }

/-- The time base changes: debounce counts begin again, a running link timer restarts its full time (R38, R96). -/
def changeBase (link : Nat) (s : State) : State :=
  (s.updMotion fun m =>
    { m with
      docPresent := m.docPresent.restart, docRead := m.docRead.restart, paperPresent := m.paperPresent.restart
      coverOpen := m.coverOpen.restart, hook := m.hook.restart, key := m.key.restart }).updModem fun m =>
    { m with linkTimer := m.linkTimer.map fun _ => link }

/-- TIMER: the bit of the wake mask and causes (section 11.2). -/
def wakeTimerBit : BitVec 5 := 16#5

def beginWaking (s : State) : State :=
  s.updPower fun p => { p with state := .waking, wakeTimer := none, oscTimer := some 128 }

/-- Steps 3 to 6 of the entry, once the grants are drained; a wake event held begins WAKING (R150 to R152). -/
def finishSleepEntry (s : State) : State :=
  let s := (burstRefresh s).updDram fun d => { d with selfRefresh := true }
  let s := changeBase 525 s
  let s := s.updModem fun m => { m with holdActive := false, holdTimer := none }
  let timer := if s.regs.wakeMask &&& wakeTimerBit ≠ 0 ∧ 0 < s.power.wakeAfter then some (s.power.wakeAfter * 32768) else none
  let s := s.updPower fun p => { p with state := .sleep, wakeTimer := timer }
  if s.power.pendingCauses = 0 then s else beginWaking s

/-- The entry goes on when no host cycle, grant or request is left (R150). -/
def continueSleepEntry (s : State) : State :=
  if s.power.state = .enteringSleep ∧ drained s then finishSleepEntry s else s

def beginSleepEntry (s : State) : State :=
  continueSleepEntry
    (s.updPower fun p => { p with state := .enteringSleep, slot := .none, idleTimer := 0, pendingCauses := 0 })

/-! ## The conditions after an event (R143 to R145) -/

/-- The idle timer restarts when quiet is lost, and an armed request whose condition holds is carried out. -/
def powerPass (s : State) : State :=
  let q := quiet s
  let s := if q then s else s.updPower fun p => { p with idleTimer := 0 }
  match s.power.slot with
  | .none => s
  | .doze => if q ∧ s.power.state = .active then enterDoze s else s
  | .sleep => if idleForSleep s ∧ (s.power.state = .active ∨ s.power.state = .doze) then beginSleepEntry s else s

/-- What the engines do at once after an event: claims, restarts, fetches, line starts, records taking their channels. -/
def enginePass (s : State) : State := motionSettle (printSettle (scanSettle s))

/-- Everything that follows an event in the event itself: the second pass serves what the first made possible in another unit, the page
store's changes are posted (R4), and the power unit tests its conditions. -/
def settle (s : State) : State := powerPass (flushStore (enginePass (enginePass s)))

/-! ## Wake (R153, R154) -/

def postLevels (note : Option Note) (s : State) : State :=
  post 162 (be8 (levelBits s SensorCell.posted)) note s

def sensorNote (n : Sensor) (s : State) : Option Note :=
  if s.motion.noteMask.getLsbD (sensorIndex n) then some .sensor else none

/-- The accepted level of a sensor is posted, and SENSOR follows if its bit is in the note mask (R39). DEDUCED (log entry 9): from an
ENGINE-RESET to the next START it is not, by R41. -/
def postSensor (n : Sensor) (s : State) : State :=
  if s.regs.engine = .running then
    let s := s.updSensor n fun c => { c with posted := c.accepted }
    postLevels (sensorNote n s) s
  else s

/-- A sensor whose accepted level differs from the level last posted is posted (R154). -/
def reconcileSensor (s : State) (n : Sensor) : State :=
  if (s.sensor n).accepted = (s.sensor n).posted then s else postSensor n s

/-- Link state and accepted code are compared with their posted values (R111, R154). -/
def reconcileLink (s : State) : State :=
  if s.regs.engine = .running then
    let s :=
      if s.modem.linkUp = s.modem.postedUp then s
      else if s.modem.linkUp then postLink true s
      else postFault .linkDown (postLink false s)
    if s.modem.code = s.modem.postedCode then s else postCode s
  else s

/-- The oscillator runs again: the tick, the DRAM out of self-refresh, a burst refresh (R153, R155). -/
def oscillatorRuns (s : State) : State :=
  burstRefresh ((changeBase 16000 (s.updPower fun p => { p with oscTimer := none })).updDram fun d =>
    { d with selfRefresh := false })

/-- The wake causes are written to the status block if the engine is RUNNING (R154). -/
def writeCauses (s : State) : State :=
  let s := s.updPower fun p => { p with causes := p.pendingCauses, pendingCauses := 0 }
  if s.regs.engine = .running then engineWrite (areaBase s + 168) (be8 s.power.causes.toNat) s else s

/-- Steps 2 to 4 of the wake (R153). DESIGN CHOICE (log entry 56): the sensors are reconciled one by one in the order of their coding, each
with a post of its own, and before the link unit, whose link state comes before its accepted code. -/
def completeWake (s : State) : State :=
  let s := writeCauses (flushHeld (oscillatorRuns s))
  let s := raiseNote .power (s.updPower fun p => { p with state := .active, idleTimer := 0 })
  reconcileLink (allSensors.foldl reconcileSensor s)

/-- The oscillator has settled: the end of a wake, or of the wait that a cold reset made (R153, R155). -/
def settled (s : State) : State :=
  if s.power.oscTimer ≠ some 0 then s
  else if s.power.state = .waking then completeWake s
  else oscillatorRuns s

/-- The idle timer stands at or above a limit above 0 (R144). -/
def idleDue (s : State) : Bool :=
  decide (0 < s.power.idleSeconds) && decide (s.power.idleSeconds * 1000000 ≤ s.power.idleTimer)

/-- The idle timer reaches the idle seconds (R144); one that a nudge has restarted before does not. -/
def idleExpired (s : State) : State :=
  if s.power.state = .active ∧ quiet s ∧ idleDue s then enterDoze s else s

/-- The wake timer expires in SLEEP (R152). -/
def wakeExpired (s : State) : State :=
  if s.power.state = .sleep ∧ s.power.wakeTimer = some 0 then
    wakeEvent wakeTimerBit (s.updPower fun p => { p with wakeTimer := none })
  else s

end Sys2Proof.Machine
end

