-- ==== Sys2Proof/Machine/Chains.lean ====
section
/-! DEFINITION. The chain unit (chapter 7): follows, checks, halts, taking and ending. -/

namespace Sys2Proof.Machine

/-! ## Kinds (R117, section 11.4) -/

def kindOf : Nat → Option Kind
  | 1 => some .scanPage | 2 => some .grayCapture | 3 => some .scanTableLoad | 4 => some .printPage
  | 5 => some .heatTableLoad | 6 => some .sendBlock | 7 => some .modeChange | 8 => some .conditionWait
  | 9 => some .receiveBuffer | 10 => some .move | 11 => some .moveToEdge | 12 => some .hold | 13 => some .release
  | 14 => some .sensorWait | 15 => some .motorTableLoad
  | _ => none

/-- The kinds of each chain (R117). -/
def kindBelongs (c : ChainId) (k : Kind) : Bool :=
  match k, c with
  | .scanPage, .scan | .grayCapture, .scan | .scanTableLoad, .scan => true
  | .printPage, .print | .heatTableLoad, .print => true
  | .sendBlock, .send | .modeChange, .send | .conditionWait, .send => true
  | .receiveBuffer, .receive => true
  | .move, .docMotion | .moveToEdge, .docMotion | .hold, .docMotion | .release, .docMotion => true
  | .sensorWait, .docMotion | .motorTableLoad, .docMotion => true
  | .move, .paperMotion | .moveToEdge, .paperMotion | .hold, .paperMotion | .release, .paperMotion => true
  | .sensorWait, .paperMotion | .motorTableLoad, .paperMotion => true
  | _, _ => false

/-- The record length given with each kind (section 11.4); for SCAN TABLE LOAD the header and the four flag bytes. -/
def recordLength : Kind → Nat
  | .scanPage => 40 | .grayCapture => 20 | .scanTableLoad => 16 | .printPage => 48 | .heatTableLoad => 60
  | .sendBlock => 24 | .modeChange => 16 | .conditionWait => 20 | .receiveBuffer => 20 | .move => 24
  | .moveToEdge => 32 | .hold => 12 | .release => 12 | .sensorWait => 16 | .motorTableLoad => 88

/-- The check of a header's KIND (R117). -/
def kindCheck (installed link : Nat) (c : ChainId) (code : Nat) : Verdict :=
  match kindOf code with
  | none => .reject .badKind
  | some k =>
    if ¬ kindBelongs c k then .reject .wrongChain
    else if link + recordLength k ≤ installed then .pass k
    else .reject .badField

/-! ## Follows (R116, R118) -/

/-- A follow reads FIRST from EMPTY, and from HALTED with cursor 0; otherwise the cursor record's LINK (R116). -/
def linkAddr (s : State) (c : ChainId) (o : Origin) : Nat :=
  if o = .fromEmpty ∨ (o = .fromHalted ∧ (s.chain c).cursor = 0) then areaBase s + anchorOffset c else (s.chain c).cursor

/-- A follow begins (R116); the chain is BUSY from here. -/
def beginFollow (o : Origin) (c : ChainId) (s : State) : State :=
  let s := askRead .chain (.link c) (linkAddr s c o) 4 s
  s.updChain c fun ch => { ch with state := .busy, follow := .link o }

/-- The chain comes to rest without a record (R114, R116). -/
def restChain (c : ChainId) (st : ChainState) (write : Bool) (s : State) : State :=
  let s := s.updChain c fun ch => { ch with state := st, follow := .idle }
  if write then postAnchor c s else s

/-- A follow that fails its checks halts the chain: anchor, fault code, FAULT (R118). -/
def haltChain (c : ChainId) (code : FaultCode) (s : State) : State := postFault code (restChain c .halted true s)

/-- A link of 0 ends the follow (R114, R116). -/
def endFollow (c : ChainId) (o : Origin) (s : State) : State :=
  match o with
  | .fromEmpty => restChain c .empty false s
  | .fromParked => restChain c .parked false s
  | .fromHalted => if (s.chain c).cursor = 0 then restChain c .empty true s else restChain c .parked true s
  | .fromEnd => restChain c .parked true s

/-- The link has been read: the upper byte is ignored, 0 ends the follow, and step 1 of R116 checks it. -/
def linkDone (c : ChainId) (o : Origin) (bytes : List Byte) (s : State) : State :=
  let link := addrField bytes 0
  if link = 0 then endFollow c o s
  else if link % 4 ≠ 0 ∨ s.dram.installed ≤ link + 11 then haltChain c .badLink s
  else (askRead .chain (.header c) link 12 s).updChain c fun ch => { ch with follow := .header link }

/-- STATE = TAKEN is written to the record (R116, step 4). -/
def writeTaken (c : ChainId) (link : Nat) (v : Verdict) (raise : Bool) (body : List Byte) (s : State) : State :=
  (askWrite (.taken c) (link + 6) (be8 1) s).updChain c fun ch => { ch with follow := .taken link v raise body }

/-- The header has been read (R116, steps 2 and 3). -/
def headerDone (c : ChainId) (link : Nat) (bytes : List Byte) (s : State) : State :=
  if field bytes 6 1 ≠ 0 then haltChain c .badState s
  else
    let raise := (field bytes 5 1).testBit 0
    match kindCheck s.dram.installed link c (field bytes 4 1) with
    | .reject r => writeTaken c link (.reject r) raise [] s
    | .pass k =>
      if recordLength k = 12 then writeTaken c link (.pass k) raise [] s
      else
        (askRead .chain (.body c) (link + 12) (recordLength k - 12) s).updChain c fun ch =>
          { ch with follow := .body link k raise }

/-- The body has been read, or for a SCAN TABLE LOAD its flags, whose data parts are then checked and read (R116, R117). -/
def bodyDone (c : ChainId) (link : Nat) (k : Kind) (raise : Bool) (bytes : List Byte) (s : State) : State :=
  if k = .scanTableLoad then
    let size := scanPartSize (field bytes 0 1)
    if s.dram.installed < link + 12 + size then writeTaken c link (.reject .badField) raise [] s
    else if size = 4 then writeTaken c link (.pass k) raise bytes s
    else
      (askRead .chain (.body c) (link + 16) (size - 4) s).updChain c fun ch =>
        { ch with follow := .parts link raise bytes }
  else writeTaken c link (.pass k) raise bytes s

/-- The record is TAKEN: the anchor, the hand-over, or the end at once of a rejected record (R116, R117). -/
def takenDone (c : ChainId) (link : Nat) (v : Verdict) (raise : Bool) (body : List Byte) (s : State) : State :=
  let kind := match v with
    | .pass k => k
    | .reject _ => .release
  let s := s.updChain c fun ch =>
    { ch with
      state := .busy, cursor := link, cutPending := false, follow := .idle
      taken := some { addr := link, kind := kind, raise := raise, body := body, stage := .handed } }
  let s := postAnchor c s
  match v with
  | .pass _ => s
  | .reject r => endRecord c .failed r [resultWord 0] s

/-! ## Ends (R119, R120, R127) -/

def endNote : ChainId → Note
  | .scan => .scanEnd | .print => .printEnd | .send => .sendEnd | .receive => .receiveEnd
  | .docMotion => .motionEnd | .paperMotion => .motionEnd

def noneTaken (s : State) : Bool := allChains.all fun c => (s.chain c).taken.isNone

/-- STOPPED is written to the status block (R127). -/
def askStopped (s : State) : State :=
  ask .chain { tag := .stopped, addr := areaBase s + 160, data := .write (be8 0), note := none } s

/-- The outcome's STATE write has completed: the record is ended, its note raised, and the chain parks or follows (R119, R120);
under an engine reset it parks, its anchor's write being asked for already, and the last one is followed by the write of STOPPED (R127). -/
def stateDone (c : ChainId) (t : Taken) (o : RecordOutcome) (park : Bool) (s : State) : State :=
  let s := s.updChain c fun ch => { ch with cutPending := false, taken := none }
  let s := if o ≠ .done ∨ t.raise then raiseNote (endNote c) s else s
  if s.regs.engine = .resetting then
    let s := restChain c .parked false s
    if noneTaken s then askStopped s else s
  else if park then restChain c .parked true s
  else beginFollow .fromEnd c s

/-- The write of STOPPED has completed (R127); while the engine is STOPPED there is no receive hold (R108). -/
def engineStopped (s : State) : State :=
  if s.regs.engine = .resetting then
    (((s.updChains fun _ => Chains.cold).updRegs fun r => { r with engine := .stopped }).updModem fun m =>
      { m with holdActive := false, holdTimer := none })
  else s

end Sys2Proof.Machine
end

