-- ==== Sys2Proof/Machine/Completion.lean ====
section
/-! DEFINITION. What the completion of a transfer brings, in the event in which its last burst completes (R116, R119, R140), and the
completion commands, which say that a transfer has completed. -/

namespace Sys2Proof.Machine

/-! ## The chain unit's transfers (R116 to R120, R127) -/

def linkArrived (c : ChainId) (bytes : List Byte) (s : State) : State :=
  match (s.chain c).follow with
  | .link o => settle (linkDone c o bytes s)
  | _ => s

def headerArrived (c : ChainId) (bytes : List Byte) (s : State) : State :=
  match (s.chain c).follow with
  | .header link => settle (headerDone c link bytes s)
  | _ => s

/-- A SCAN TABLE LOAD with parts has two body reads: its flags, then its parts. -/
def bodyArrived (c : ChainId) (bytes : List Byte) (s : State) : State :=
  match (s.chain c).follow with
  | .body link k raise => bodyDone c link k raise bytes s
  | .parts link raise flags => writeTaken c link (.pass .scanTableLoad) raise (flags ++ bytes) s
  | _ => s

def takenWritten (c : ChainId) (s : State) : State :=
  match (s.chain c).follow with
  | .taken link v raise body => takenDone c link v raise body s
  | _ => s

def stateWritten (c : ChainId) (s : State) : State :=
  match (s.chain c).taken with
  | some t =>
    match t.stage with
    | .ending o park => settle (stateDone c t o park s)
    | .handed | .working => s
  | none => s

/-! ## The line fetch (R73) -/

/-- The source read has completed and fills the source store; a line without a stamp is formed. -/
def sourceArrived (bytes : List Byte) (s : State) : State :=
  match s.print.fetch, s.print.work with
  | .reading true stamp, some j =>
    let l := lineOfBytes bytes
    let s := s.updPrint fun u => { u with sourceStore := some (nextSource s, l), fetch := .reading false stamp }
    if stamp then s else settle (formLine j.request l Line.white s)
  | _, _ => s

/-- The stamp read, asked for after the source read, has completed: the line is formed. -/
def stampArrived (bytes : List Byte) (s : State) : State :=
  match s.print.fetch, s.print.work, s.print.sourceStore with
  | .reading _ true, some j, some (_, l) => settle (formLine j.request l (lineOfBytes bytes) s)
  | _, _, _ => s

/-! ## Completion -/

/-- A transfer has completed: its note is raised (R140), and its unit acts in the same event. -/
def finishXfer (x : Xfer) (s : State) : State :=
  let s := raiseIf x.note s
  match x.tag with
  | .post | .progress _ | .result _ | .reason _ => s
  | .link c => linkArrived c x.bytes s
  | .header c => headerArrived c x.bytes s
  | .body c => bodyArrived c x.bytes s
  | .taken c => takenWritten c s
  | .state c => stateWritten c s
  | .stopped => powerPass (engineStopped s)
  | .lineBuffer => settle (lineBufferDone s)
  | .grayRow => settle (grayRowDone s)
  | .source => sourceArrived x.bytes s
  | .stamp => stampArrived x.bytes s
  | .sendFetch => settle (sendArrived x.bytes s)
  | .receive => settle (receiveDone s)
  | .boot => bootBurstDone s

/-- The grant in progress completes, and with it, if it was a transfer's last burst, the transfer. -/
def grantCompleted (s : State) : State :=
  match completeGrant s with
  | (none, s) => s
  | (some x, s) => finishXfer x s

/-- A step reports that the requester's transfer of this tag has completed: the transfers before it and it itself complete, in their
order (log entry 8). Nothing happens where there is no such transfer. -/
def completed (r : Requester) (tag : Tag) : Nat → State → State
  | 0, s => s
  | n + 1, s =>
    match s.dram.queue r with
    | [] => s
    | x :: rest =>
      if (x :: rest).any fun y => decide (y.tag = tag) then
        let (x', s) := runHead r x rest s
        let s := finishXfer x' s
        if x.tag = tag then s else completed r tag n s
      else s

/-- As many transfers as the requester has at the step; a sleep entry that they have drained goes on (R150). -/
def completedNow (r : Requester) (tag : Tag) (s : State) : State :=
  continueSleepEntry (completed r tag (s.dram.queue r).length s)

end Sys2Proof.Machine
end

