-- ==== Sys2Proof/Machine/Records.lean ====
section
/-! DEFINITION. The meanings of the fifteen record commands: an engine acts on the record handed to it (chapters 2 to 7). Without such a
record of the chain the command has no effect. `act…` is what the engine does, shared with the events that find a record just handed. -/

namespace Sys2Proof.Machine

/-- A record whose fields are bad ends FAILED BAD-FIELD; the unstated fields of its results take a free value (log entry 5). -/
def failBadField (c : ChainId) (results : List (Nat × List Byte)) (s : State) : State :=
  settle (bumpFree (endRecord c .failed .badField results s))

/-! ## SCAN chain (R6, R52, R62, R63) -/

/-- SCAN_PAGE (R52): fields, then the page check of R6, then WAIT-OWNER. -/
def actScanPage (s : State) : State :=
  match handed s .scan .scanPage with
  | none => s
  | some t =>
    let j := newScanJob (scanRequest t.body) s
    if ¬ scanFieldsOk t.body then failBadField .scan j.results s
    else if (s.store.page j.request.page).state ≠ .empty then
      settle (bumpFree (endRecord .scan .failed .pageBusy j.results s))
    else settle ((setWorking .scan (bumpFree s)).updScanJob j)

/-- GRAY_CAPTURE (R62). -/
def actGrayCapture (s : State) : State :=
  match handed s .scan .grayCapture with
  | none => s
  | some t =>
    match grayRequest s.dram.installed t.body with
    | none => failBadField .scan [resultWord 0] s
    | some (a, n) =>
      settle
        ((setWorking .scan s).updGrayJob { addr := a, count := n, stored := 0, phase := .waitOwner, outcome := none })

/-- The scan tables are replaced; a new GEOMETRY part restarts a running line timing (R44, R63). -/
def loadScanTables (geometry : Bool) (t : ScanTables) (s : State) : State :=
  s.updScan fun u =>
    { u with
      tables := t
      lineTimer := if geometry then u.lineTimer.map fun _ => t.geometry.period else u.lineTimer }

/-- SCAN_TABLE_LOAD (R63). -/
def actScanTableLoad (s : State) : State :=
  match handed s .scan .scanTableLoad with
  | none => s
  | some t =>
    match scanTablesOf s.scan.tables t.body with
    | none => settle (endRecord .scan .failed .badTable [resultWord 0] s)
    | some tables =>
      settle (endRecord .scan .done .none [resultWord 0]
        (loadScanTables ((field t.body 0 1).testBit 0) tables s))

/-! ## PRINT chain (R68, R87) -/

/-- PRINT_PAGE (R68). A record that ends here has its page's PRINT hold removed all the same (R13). -/
def actPrintPage (s : State) : State :=
  match handed s .print .printPage with
  | none => s
  | some t =>
    let j := newPrintJob (printRequest t.addr t.body) s
    if ¬ printFieldsOk s.dram.installed t.addr t.body then
      settle (bumpFree (finishPrint .failed .badField j s))
    else settle ((setWorking .print (bumpFree s)).updPrintJob j)

/-- HEAT_TABLE_LOAD (R87). -/
def actHeatTableLoad (s : State) : State :=
  match handed s .print .heatTableLoad with
  | none => s
  | some t =>
    match heatTableOf t.body with
    | none => settle (endRecord .print .failed .badTable [resultWord 0] s)
    | some table =>
      settle (endRecord .print .done .none [resultWord 0] (s.updPrint fun u => { u with heat := table }))

/-! ## SEND chain (R96, R98, R102, R105, R106) -/

/-- The reason a SEND BLOCK, MODE CHANGE or RECEIVE BUFFER fails as it is taken: link DOWN, or code 15 in force (R96, R98). DESIGN CHOICE
(log entry 55): a field that is bad is tested before it for the MODE CHANGE, CONDITION WAIT and RECEIVE BUFFER too. -/
def linkRefusal (s : State) : Option Reason :=
  if ¬ s.modem.linkUp then some .linkDown else if s.modem.code = 15 then some .modemFault else none

/-- SEND_BLOCK (R102). DESIGN CHOICE (log entry 45): one that fails BAD-FIELD does not end an underrun. -/
def actSendBlock (s : State) : State :=
  match handed s .send .sendBlock with
  | none => s
  | some t =>
    match blockRequest s.dram.installed t.body with
    | none => failBadField .send blockResult s
    | some j =>
      match linkRefusal s with
      | some r => settle (rejectSend r blockResult s)
      | none => settle (startBlock j (setWorking .send s))

/-- MODE_CHANGE (R105). A record refused as it is taken does not set its code; its result is unstated (log entry 5). -/
def actModeChange (s : State) : State :=
  match handed s .send .modeChange with
  | none => s
  | some t =>
    match modeRequest t.body with
    | none => failBadField .send (modeResult (unstated s)) s
    | some code =>
      match linkRefusal s with
      | some r => settle (bumpFree (rejectSend r (modeResult (unstated s)) s))
      | none => settle (startMode code (setWorking .send s))

/-- CONDITION_WAIT (R106); code 15 in force does not fail it (R98). -/
def actConditionWait (s : State) : State :=
  match handed s .send .conditionWait with
  | none => s
  | some t =>
    match conditionRequest t.body with
    | none => failBadField .send (waitResult s) s
    | some (mask, value, ms) =>
      if ¬ s.modem.linkUp then settle (rejectSend .linkDown (waitResult s) s)
      else settle (startWait mask value ms (setWorking .send s))

/-! ## RECEIVE chain (R109) -/

/-- RECEIVE_BUFFER (R109). -/
def actReceiveBuffer (s : State) : State :=
  match handed s .receive .receiveBuffer with
  | none => s
  | some t =>
    match receiveRequest s.dram.installed t.body with
    | none => settle (rejectReceive .badField s)
    | some j =>
      match linkRefusal s with
      | some r => settle (rejectReceive r s)
      | none =>
        settle ((setWorking .receive s).updModem fun m => { m with receiveWork := some j })

/-! ## Motion chains (R27, R31 to R36) -/

/-- The motion record is in WAIT-OWNER (R27). -/
def beginMotion (c : ChannelId) (r : MotionRequest) (s : State) : State :=
  settle ((setWorking (motionChain c) s).setJob c (some { request := r, phase := .waitOwner }))

/-- MOVE (R31). -/
def actMove (c : ChannelId) (s : State) : State :=
  match handed s (motionChain c) .move with
  | none => s
  | some t =>
    match moveRequest t.body with
    | none => failBadField (motionChain c) (moveResults (unstated s) 0 (BitVec.ofNat 32 (unstated s))) s
    | some r => beginMotion c r s

/-- MOVE_TO_EDGE (R32, R33). -/
def actMoveToEdge (c : ChannelId) (s : State) : State :=
  match handed s (motionChain c) .moveToEdge with
  | none => s
  | some t =>
    match edgeRequest t.body with
    | none => failBadField (motionChain c) (edgeResults (unstated s) 0 0 0 (BitVec.ofNat 32 (unstated s))) s
    | some r => beginMotion c r s

/-- HOLD (R34, R40). -/
def actHold (c : ChannelId) (s : State) : State :=
  match handed s (motionChain c) .hold with
  | none => s
  | some _ => beginMotion c .hold s

/-- RELEASE (R34). -/
def actRelease (c : ChannelId) (s : State) : State :=
  match handed s (motionChain c) .release with
  | none => s
  | some _ => beginMotion c .release s

/-- SENSOR_WAIT (R35). -/
def actSensorWait (c : ChannelId) (s : State) : State :=
  match handed s (motionChain c) .sensorWait with
  | none => s
  | some t =>
    match sensorWaitRequest t.body with
    | none => failBadField (motionChain c) [resultWord 0] s
    | some r => beginMotion c r s

/-- MOTOR_TABLE_LOAD (R36). -/
def actMotorTableLoad (c : ChannelId) (s : State) : State :=
  match handed s (motionChain c) .motorTableLoad with
  | none => s
  | some t =>
    match motorTableOf t.body with
    | none => settle (endRecord (motionChain c) .failed .badTable [resultWord 0] s)
    | some table => beginMotion c (.table table) s

/-! ## The record commands and the hand-over -/

/-- SCAN_PAGE (R52). -/
def execScanPage (s : State) : Host.Outcome State Fault Refusal := .next (actScanPage s)

/-- GRAY_CAPTURE (R62). -/
def execGrayCapture (s : State) : Host.Outcome State Fault Refusal := .next (actGrayCapture s)

/-- SCAN_TABLE_LOAD (R63). -/
def execScanTableLoad (s : State) : Host.Outcome State Fault Refusal := .next (actScanTableLoad s)

/-- PRINT_PAGE (R68). -/
def execPrintPage (s : State) : Host.Outcome State Fault Refusal := .next (actPrintPage s)

/-- HEAT_TABLE_LOAD (R87). -/
def execHeatTableLoad (s : State) : Host.Outcome State Fault Refusal := .next (actHeatTableLoad s)

/-- SEND_BLOCK (R102). -/
def execSendBlock (s : State) : Host.Outcome State Fault Refusal := .next (actSendBlock s)

/-- MODE_CHANGE (R105). -/
def execModeChange (s : State) : Host.Outcome State Fault Refusal := .next (actModeChange s)

/-- CONDITION_WAIT (R106). -/
def execConditionWait (s : State) : Host.Outcome State Fault Refusal := .next (actConditionWait s)

/-- RECEIVE_BUFFER (R109). -/
def execReceiveBuffer (s : State) : Host.Outcome State Fault Refusal := .next (actReceiveBuffer s)

/-- MOVE (R31). -/
def execMove (c : ChannelId) (s : State) : Host.Outcome State Fault Refusal := .next (actMove c s)

/-- MOVE_TO_EDGE (R32, R33). -/
def execMoveToEdge (c : ChannelId) (s : State) : Host.Outcome State Fault Refusal := .next (actMoveToEdge c s)

/-- HOLD (R34, R40). -/
def execHold (c : ChannelId) (s : State) : Host.Outcome State Fault Refusal := .next (actHold c s)

/-- RELEASE (R34). -/
def execRelease (c : ChannelId) (s : State) : Host.Outcome State Fault Refusal := .next (actRelease c s)

/-- SENSOR_WAIT (R35). -/
def execSensorWait (c : ChannelId) (s : State) : Host.Outcome State Fault Refusal := .next (actSensorWait c s)

/-- MOTOR_TABLE_LOAD (R36). -/
def execMotorTableLoad (c : ChannelId) (s : State) : Host.Outcome State Fault Refusal := .next (actMotorTableLoad c s)

/-- The channel whose motion chain a chain is. -/
def chainChannel : ChainId → ChannelId
  | .paperMotion => .p
  | .scan | .print | .send | .receive | .docMotion => .d

/-- An engine acts on a record of the kind given that was handed to it on the chain. -/
def actKind (c : ChainId) (k : Kind) (s : State) : State :=
  match k with
  | .scanPage => actScanPage s
  | .grayCapture => actGrayCapture s
  | .scanTableLoad => actScanTableLoad s
  | .printPage => actPrintPage s
  | .heatTableLoad => actHeatTableLoad s
  | .sendBlock => actSendBlock s
  | .modeChange => actModeChange s
  | .conditionWait => actConditionWait s
  | .receiveBuffer => actReceiveBuffer s
  | .move => actMove (chainChannel c) s
  | .moveToEdge => actMoveToEdge (chainChannel c) s
  | .hold => actHold (chainChannel c) s
  | .release => actRelease (chainChannel c) s
  | .sensorWait => actSensorWait (chainChannel c) s
  | .motorTableLoad => actMotorTableLoad (chainChannel c) s

/-- A record that stands handed to its engine is acted on now: R116 hands it over in the event that takes it, so a cut or an engine reset
finds the engine to have acted (R124, R127, log entry 19). -/
def actHanded (c : ChainId) (s : State) : State :=
  match (s.chain c).taken with
  | some t => if t.stage = .handed then actKind c t.kind s else s
  | none => s

end Sys2Proof.Machine
end

