-- ==== Sys2Proof/Machine/Nudge.lean ====
section
/-! DEFINITION. Nudges, cuts and the engine reset (R122 to R125, R127, R134, R146). -/

namespace Sys2Proof.Machine

/-! ## Nudges and cuts (R122 to R125, R146) -/

/-- A follow bit on one chain (R122). -/
def followChain (c : ChainId) (s : State) : State :=
  match (s.chain c).state with
  | .empty => beginFollow .fromEmpty c s
  | .parked => beginFollow .fromParked c s
  | .halted => beginFollow .fromHalted c s
  | .busy => s

/-- The cut is passed to the record's engine (R124). -/
def engineCut (c : ChainId) (s : State) : State :=
  match c with
  | .scan => cutScan s
  | .print => cutPrint s
  | .send => cutSend s
  | .receive => cutReceive s
  | .docMotion => cutMotion .d s
  | .paperMotion => cutMotion .p s

/-- A cut bit on one chain (R124): it needs a TAKEN record whose outcome is not handed over. A record just handed to its engine is acted
on first, so that a table load has ended already. -/
def cutChain (c : ChainId) (s : State) : State :=
  let s := actHanded c s
  match inWork s c with
  | none => s
  | some _ =>
    if (s.chain c).cutPending then s else engineCut c (s.updChain c fun ch => { ch with cutPending := true })

/-- The power unit's part of a NUDGE write (R144, R146, R148). -/
def nudgePower (s : State) : State :=
  let held := s.power.slot ≠ .none
  let s := toActive (s.updPower fun p => { p with slot := .none, idleTimer := 0 })
  if held then raiseNote .power s else s

/-- A NUDGE write: slot and power state, then, while RUNNING, cut bits and follow bits (R122, R124, R146). DESIGN CHOICE (log entry 47):
all cut bits act first, in chain order, then all follow bits, in chain order. -/
def nudge (word : Half) (s : State) : State :=
  let s := nudgePower s
  if s.regs.engine ≠ .running then settle s
  else
    let s := allChains.foldl (fun s c => if word.getLsbD (8 + chainIndex c) then cutChain c s else s) s
    settle (allChains.foldl (fun s c => if word.getLsbD (chainIndex c) then followChain c s else s) s)

/-! ## Engine reset (R127, R134) -/

/-- The results of a TAKEN record as its engine gives them at an engine reset. -/
def resetResults (c : ChainId) (s : State) : List (Nat × List Byte) :=
  match c with
  | .scan => match s.scan.work with
    | some (.page j) => j.results
    | some (.gray j) => [resultWord j.stored]
    | none => [resultWord 0]
  | .print => match s.print.work with
    | some j => j.results
    | none => [resultWord 0]
  | .send => match s.modem.sendWork with
    | some w => w.results s.modem.code (msSince s w.since)
    | none => [resultWord 0]
  | .receive => match s.modem.receiveWork with
    | some j => [(18, be8 0), resultWord j.count]
    | none => [resultWord 0]
  | .docMotion => match s.job .d with
    | some j => j.results s (s.channel .d)
    | none => [resultWord 0]
  | .paperMotion => match s.job .p with
    | some j => j.results s (s.channel .p)
    | none => [resultWord 0]

def isFollowTag (c : ChainId) (t : Tag) : Bool :=
  decide (t = .link c) || decide (t = .header c) || decide (t = .body c) || decide (t = .taken c)

def Tag.isTaken : Tag → Bool
  | .taken _ => true
  | _ => false

/-- A TAKEN write whose grant has begun completes, so that its record is TAKEN (R127, R138, log entry 11). -/
def grantedTaken (s : State) : State :=
  match splitGranted s.dram .chain with
  | (x :: _, rest) =>
    if x.tag.isTaken then
      let (x, s) := runHead .chain x rest s
      finishXfer x s
    else s
  | ([], _) => s

/-- A follow in progress is abandoned (R127); a grant begun for it completes. -/
def abandonFollow (c : ChainId) (s : State) : State :=
  if (s.chain c).follow = .idle then s
  else (withdrawFrom .chain (isFollowTag c) s).updChain c fun ch => { ch with follow := .idle }

/-- The end of a TAKEN record by an engine reset (R127): results, REASON and STATE as ENGINE-RESET and CUT; a record whose outcome was
handed over and whose STATE write has not completed gets them in place of the handed ones, a STATE write begun being overwritten. -/
def resetEnd (c : ChainId) (t : Taken) (s : State) : State :=
  match t.stage with
  | .ending _ _ =>
    let s := withdrawFrom .chain (fun tag => decide (tag = .reason c) || decide (tag = .state c)) s
    (askEndWrites c t .cut .engineReset [] s).updChain c fun ch =>
      { ch with taken := some { t with stage := .ending .cut true } }
  | _ => endRecord c .cut .engineReset (resetResults c s) s

/-- CURSOR and PARKED of an anchor are asked for behind its record's end (R127). -/
def askParked (c : ChainId) (s : State) : State :=
  ask .chain (areaWrite s (anchorOffset c + 4) (be32 (s.chain c).cursor ++ be8 ChainState.parked.code) none) s

/-- One chain's part of an engine reset: its TAKEN record's end and its anchor, so that the chains are served in chain order (R127). -/
def resetRecord (s : State) (c : ChainId) : State :=
  match (s.chain c).taken with
  | none => s
  | some t => askParked c (resetEnd c t s)

/-- The unit effects of an engine reset (R134). -/
def resetUnits (s : State) : State :=
  let s := modemReset (motionReset (printReset (scanReset s)))
  let s := s.updStore PageStore.dropped
  toActive (s.updPower fun p => { p with slot := .none, idleTimer := 0 })

/-- The chain unit's part of an engine reset while RUNNING (R127): follows are abandoned, records just handed over are acted on, and every
TAKEN record is given its end. -/
def resetChains (s : State) : State :=
  let s := allChains.foldl (fun s c => abandonFollow c s) (grantedTaken s)
  let s := allChains.foldl (fun s c => actHanded c s) s
  bumpFree (allChains.foldl resetRecord s)

/-- ENGINE-RESET (R127, R134). A second one before STOPPED has no further effect on the chains; while STOPPED there is no record to end.
From it on no page store entry and no motion or sensor field of the status block is posted until the next START (R18, R41, log entry 9); the
other fields are until STOPPED (R141). DESIGN CHOICE (log entries 11, 46): posts and notes asked for before it are still written. -/
def engineResetNow (s : State) : State :=
  if s.regs.engine = .running then
    let s := (resetChains s).updRegs fun r => { r with engine := .resetting }
    let s := resetUnits s
    if noneTaken s then askStopped s else s
  else resetUnits s

end Sys2Proof.Machine
end

