-- ==== Sys2Proof/Machine/Host.lean ====
section
/-! DEFINITION. The host bus interface and the register commands (chapter 8): START, PWRCTL, register writes, bus cycles. -/

namespace Sys2Proof.Machine

/-! ## Host cycles as such (R129 to R131) -/

/-- A host DRAM cycle held for its grant completes before the host makes another (R129). -/
def finishHostCycle (s : State) : State :=
  match s.bus.cycle with
  | none => s
  | some _ =>
    hostDone (s.updDram fun d => { d with hostTookLast := true, grant := if d.grant = some .host then none else d.grant })

/-- A host cycle other than a following snapshot read empties the snapshot store (R131); the cycle's result is given. -/
def hostCycleEnds (r : HostResult) (s : State) : State :=
  s.updBus fun b => { b with rate := 0, result := r, snapshot := none, follows := none }

/-- A register write is answered at once (R129): the held cycle before it has completed, the snapshot store is emptied. -/
def hostWrites (s : State) : State := hostCycleEnds .written (finishHostCycle s)

/-! ## START (R133) -/

/-- A refused START writes START-REFUSED to the last fault code field and raises FAULT. -/
def refuseStart (s : State) : State :=
  raiseNote .fault (engineWrite (areaBase s + 161) (be8 FaultCode.startRefused.code) s)

def SensorCell.postedNow (c : SensorCell) : SensorCell := { c with posted := c.accepted }

/-- The part takes its copies of the setup fields, and its totals become 0 (R133). -/
def takeSetup (u : Setup) (s : State) : State :=
  let s := s.updStore fun _ => PageStore.built u.poolBase u.bandCount u.lowMark
  let s := s.updScan fun c => { c with bandLimit := u.bandLimit }
  let s := s.updPower fun p => { p with idleSeconds := u.idleSeconds, wakeAfter := u.wakeAfter }
  let s := s.updPrint fun p => { p with overTotal := 0 }
  let s := s.updModem fun m =>
    { m with
      ackLimit := u.ackLimit, fillLimit := u.fillLimit, holdLimitMs := u.holdLimitMs, fillTotal := 0
      postedUp := m.linkUp, postedCode := m.code }
  s.updMotion fun m =>
    { m with
      debounceMs := u.debounceMs, noteMask := u.noteMask, docPresent := m.docPresent.postedNow
      docRead := m.docRead.postedNow, paperPresent := m.paperPresent.postedNow, coverOpen := m.coverOpen.postedNow
      hook := m.hook.postedNow, key := m.key.postedNow }

/-- CURSOR 0 and EMPTY of one anchor (R126). -/
def writeEmptyAnchor (s : State) (c : ChainId) : State := engineWrite (areaBase s + anchorOffset c + 4) [0, 0, 0, 0, 0] s

/-- An accepted START in the order of R133: tables, anchors, totals, status block, RUNNING. -/
def acceptStart (u : Setup) (s : State) : State :=
  let s := (takeSetup u s).updChains fun _ => Chains.cold
  let s := engineWrite (areaBase s + 288) s.store.tables s
  let s := allChains.foldl writeEmptyAnchor s
  let s := engineWrite (areaBase s + 160) (statusBlock s true .none) s
  s.updRegs fun r => { r with engine := .running }

/-- START while STOPPED: the checks in their order (R133). -/
def startChecks (s : State) : State :=
  let base := areaBase s
  if s.dram.installed < base + 4096 then raiseNote .fault s
  else
    let (setup, s) := readFree (engineTook s) base 64
    let u := setupOf setup
    if setupOk s.dram.installed base u then acceptStart u s else refuseStart s

/-- START (R133): it returns the part from DOZE; while RUNNING it is ignored. -/
def startNow (s : State) : State :=
  if s.regs.engine = .stopped then powerPass (startChecks (toActive s)) else s

/-! ## PWRCTL (R135, R145) -/

def setMask (mask : BitVec 5) (s : State) : State := s.updRegs fun r => { r with wakeMask := mask }

def goDozeNow (s : State) : State :=
  if s.power.state = .doze then s.updPower fun p => { p with slot := .none }
  else powerPass (s.updPower fun p => { p with slot := .doze })

def goSleepNow (s : State) : State := powerPass (s.updPower fun p => { p with slot := .sleep })

def goActiveNow (s : State) : State := toActive (s.updPower fun p => { p with slot := .none })

def cancelNow (s : State) : State := s.updPower fun p => { p with slot := .none }

/-- The commands of PWRCTL by their codes (section 11.2). -/
def powerCommand (code : Nat) (s : State) : State :=
  match code with
  | 1 => startNow s
  | 2 => settle (engineResetNow s)
  | 3 => goDozeNow s
  | 4 => goActiveNow s
  | 5 => goSleepNow s
  | 6 => cancelNow s
  | _ => s

/-- A PWRCTL write: every write loads the wake mask, then its command acts (R135). -/
def pwrctlWrite (mask : BitVec 5) (code : Nat) (s : State) : State := powerCommand code (setMask mask (hostWrites s))

/-! ## The other registers (R132, R140, R14) -/

def clearNotes (word : Half) (s : State) : State :=
  s.updRegs fun r => { r with notes := r.notes &&& ~~~(word.setWidth 10) }

def loadNoteMask (word : Half) (s : State) : State := s.updRegs fun r => { r with noteMask := word.setWidth 10 }

/-- AREA is loaded while STOPPED and ignored otherwise, an engine reset's time included (R132). -/
def loadArea (word : Half) (s : State) : State :=
  if s.regs.engine = .stopped then s.updRegs fun r => { r with area := word.setWidth 10 } else s

/-- A page id written to PAGEDROP (R14). -/
def dropPage (word : Half) (s : State) : State :=
  if s.regs.engine = .running ∧ word.toNat < 16 then settle (dropKeep word.toNat s) else s

/-- A word write to one of the writable registers (R129, R132). -/
def registerWrite (a : Nat) (word : Half) (s : State) : State :=
  if a = 0xFFFFF2 then loadArea word s
  else if a = 0xFFFFF4 then nudge word s
  else if a = 0xFFFFF6 then clearNotes word s
  else if a = 0xFFFFF8 then loadNoteMask word s
  else if a = 0xFFFFFA then powerCommand (word.toNat % 8) (setMask (word.extractLsb' 8 5) s)
  else if a = 0xFFFFFC then dropPage word s
  else s

/-! ## Bus cycles (R129 to R131) -/

/-- The cycles that end with bus error (R130). -/
def isBusError (s : State) (c : HostCycle) : Bool :=
  let a := c.addr.toNat
  if c.isWord ∧ a % 2 = 1 then true
  else if a < s.dram.installed then false
  else match registerAt s (a / 2 * 2), c.access with
    | none, _ => true
    | some _, .read => false
    | some _, .write _ => !c.isWord || decide (a / 2 * 2 = 0xFFFFF0)

/-- The value of a register read: the whole register, or the addressed half (R129). -/
def registerRead (c : HostCycle) (v : Half) : Half :=
  if c.isWord then v else if c.addr.toNat % 2 = 0 then v >>> 8 else v &&& 0xFF

/-- The read follows the previous one in the snapshot's block and is answered from the store (R131). -/
def followsSnapshot (s : State) (c : HostCycle) : Option (Nat × List Byte) :=
  match s.bus.snapshot, s.bus.follows, c.access with
  | some (block, bytes), some a, .read =>
    if c.addr.toNat = a ∧ a / 16 * 16 = block ∧ inArea s a then some (block, bytes) else none
  | _, _, _ => none

/-- One host bus cycle (R129 to R131). -/
def hostCycle (c : HostCycle) (s : State) : State :=
  let s := finishHostCycle s
  if isBusError s c then hostCycleEnds .busError s
  else if c.addr.toNat < s.dram.installed then
    match followsSnapshot s c with
    | some (block, bytes) => answerSnapshot c block bytes s
    | none => (hostCycleEnds .waiting s).updBus fun b => { b with cycle := some c, rate := nextClock s }
  else match c.access with
    | .write data => registerWrite (c.addr.toNat / 2 * 2) data (hostCycleEnds .written s)
    | .read => hostCycleEnds (.data (registerRead c ((registerAt s (c.addr.toNat / 2 * 2)).getD 0))) s

/-- A command of the host has effect only while the host runs (R129). -/
def byHost (f : State → State) (s : State) : State := if hostRuns s then f s else s

end Sys2Proof.Machine
end

