-- ==== Sys2Proof/Machine/ExecHost.lean ====
section
/-! DEFINITION. The meanings of the host's commands: PWRCTL, NUDGE, NOTES, NOTEMASK, AREA, PAGEDROP and bus cycles (chapter 8). -/

namespace Sys2Proof.Machine

/-- START (R133, R135). -/
def execStart (mask : BitVec 5) (s : State) : Host.Outcome State Fault Refusal :=
  .next (byHost (pwrctlWrite mask 1) s)

/-- ENGINE_RESET (R127, R134, R135). -/
def execEngineReset (mask : BitVec 5) (s : State) : Host.Outcome State Fault Refusal :=
  .next (byHost (pwrctlWrite mask 2) s)

/-- GO_DOZE (R135, R145). -/
def execGoDoze (mask : BitVec 5) (s : State) : Host.Outcome State Fault Refusal :=
  .next (byHost (pwrctlWrite mask 3) s)

/-- GO_ACTIVE (R135, R145). -/
def execGoActive (mask : BitVec 5) (s : State) : Host.Outcome State Fault Refusal :=
  .next (byHost (pwrctlWrite mask 4) s)

/-- GO_SLEEP (R135, R145, R150). -/
def execGoSleep (mask : BitVec 5) (s : State) : Host.Outcome State Fault Refusal :=
  .next (byHost (pwrctlWrite mask 5) s)

/-- CANCEL (R135, R145). -/
def execCancel (mask : BitVec 5) (s : State) : Host.Outcome State Fault Refusal :=
  .next (byHost (pwrctlWrite mask 6) s)

/-- NONE (R135). -/
def execNone (mask : BitVec 5) (s : State) : Host.Outcome State Fault Refusal :=
  .next (byHost (pwrctlWrite mask 0) s)

/-- NO_COMMAND (R135): code 7. -/
def execNoCommand (mask : BitVec 5) (s : State) : Host.Outcome State Fault Refusal :=
  .next (byHost (pwrctlWrite mask 7) s)

/-- FOLLOW_NUDGE (R122, R132, R146): a NUDGE write without a cut bit. -/
def execFollowNudge (word : Half) (s : State) : Host.Outcome State Fault Refusal :=
  .next (byHost (fun s => nudge word (hostWrites s)) s)

/-- CUT (R124, R125, R132, R146): a NUDGE write with a cut bit; cut bits act before follow bits (R122). -/
def execCut (word : Half) (s : State) : Host.Outcome State Fault Refusal :=
  .next (byHost (fun s => nudge word (hostWrites s)) s)

/-- NOTES_CLEAR (R132, R140). -/
def execNotesClear (word : Half) (s : State) : Host.Outcome State Fault Refusal :=
  .next (byHost (fun s => clearNotes word (hostWrites s)) s)

/-- NOTEMASK_WRITE (R132, R140). -/
def execNotemaskWrite (word : Half) (s : State) : Host.Outcome State Fault Refusal :=
  .next (byHost (fun s => loadNoteMask word (hostWrites s)) s)

/-- AREA_WRITE (R132). -/
def execAreaWrite (word : Half) (s : State) : Host.Outcome State Fault Refusal :=
  .next (byHost (fun s => loadArea word (hostWrites s)) s)

/-- PAGEDROP (R14, R132). -/
def execPagedrop (word : Half) (s : State) : Host.Outcome State Fault Refusal :=
  .next (byHost (fun s => dropPage word (hostWrites s)) s)

/-- BUS_ERROR (R130). A cycle that R130 does not name is carried out as the cycle it is. -/
def execBusError (cycle : HostCycle) (s : State) : Host.Outcome State Fault Refusal :=
  .next (byHost (hostCycle cycle) s)

/-- HOST_DRAM_ACCESS (R129, R131). A cycle to a register or outside DRAM is decoded as R129 and R130 give. -/
def execHostDramAccess (cycle : HostCycle) (s : State) : Host.Outcome State Fault Refusal :=
  .next (byHost (hostCycle cycle) s)

end Sys2Proof.Machine
end

