-- ==== Sys2Proof/Machine/Sensors.lean ====
section
/-! DEFINITION. The six sensors (R38 to R40): raw changes, acceptance, the users of a level, cover-open forcing. -/

namespace Sys2Proof.Machine

/-- The debounce time in the time base that runs: ticks, or periods of the 32.768 kHz clock (R38). -/
def debounceFull (s : State) : Nat :=
  if slowBase s then ceilDiv (s.motion.debounceMs * 32768) 1000
  else s.motion.debounceMs * 1000

/-- A raw level as sampled. Before the first tick after a cold reset it is accepted without debounce (R38, log entry 2). -/
def SensorCell.sample (first : Bool) (level : Bool) (c : SensorCell) : SensorCell :=
  if first then { c with raw := level, accepted := level, count := none }
  else
    { c with
      raw := level
      count := if level = c.accepted then none else if level = c.raw then c.count else some 0 }

def rawChange (n : Sensor) (level : Bool) (s : State) : State :=
  s.updSensor n (SensorCell.sample (decide (s.boot.state = .awaitStrap)) level)

/-- HOOK, KEY and DOC-PRESENT return the part from DOZE (R148). -/
def wakesDoze : Sensor → Bool
  | .hook | .key | .docPresent => true
  | .docRead | .paperPresent | .coverOpen => false

/-- The wake event an accepted change is, as a bit of the wake mask, 0 for none (R152, section 11.2). -/
def wakeSource (n : Sensor) (level : Bool) : BitVec 5 :=
  match n with
  | .hook => 2
  | .key => if level then 4 else 0
  | .docPresent => 8
  | .docRead | .paperPresent | .coverOpen => 0

/-- COVER-OPEN became OPEN: channels, lamp and supply go OFF and the records that hold them end (R40, R43, R61, R66, R83).
DESIGN CHOICE (log entry 57): their posts and ends are asked for in the order lamp, supply, channel D, channel P, scan, print. -/
def coverForce (s : State) : State :=
  let s := setSupply .off none none (setLamp .off none none s)
  printCover (scanCover (coverChannel .p (coverChannel .d s)))

/-- The accepted level goes to the blocks that use it (R39). DESIGN CHOICE (log entry 58): after a cover opening's effects, the records of
channel D, then those of channel P, then the scan unit. -/
def sensorUsers (n : Sensor) (level : Bool) (s : State) : State :=
  let s := if n = .coverOpen ∧ level then coverForce s else s
  let s := motionSensed .p n level (motionSensed .d n level s)
  match n with
  | .docRead => if level then scanCovered s else scanUncovered s
  | .docPresent | .paperPresent | .coverOpen | .hook | .key => s

/-- The raw level differs from the accepted level and has done so for the debounce time (R38). -/
def debounced (n : Sensor) (s : State) : Bool :=
  let c := s.sensor n
  decide (c.raw ≠ c.accepted) && match c.count with
    | some k => decide (debounceFull s ≤ k)
    | none => false

/-- A debounced raw level becomes the accepted level (R38, R39); a level not held for the debounce time does not. -/
def acceptSensor (n : Sensor) (s : State) : State :=
  let c := s.sensor n
  if !debounced n s then s
  else
    let s := s.updSensor n fun c => { c with accepted := c.raw, count := none }
    if changesHeld s then wakeEvent (wakeSource n c.raw) s
    else
      let s := if wakesDoze n then toActive s else s
      settle (sensorUsers n c.raw (postSensor n s))

end Sys2Proof.Machine
end

