-- ==== Sys2Proof/Machine/ExecSystem.lean ====
section
/-! DEFINITION. The meanings of resets, boot, memory controller, chain unit and power unit commands (chapters 7 to 10). -/

namespace Sys2Proof.Machine

/-! ## Cold reset and boot (chapter 10, R155, R156) -/

/-- The main oscillator is stopped or not settled: a cold reset has to start it and wait for it (R155). -/
def oscillatorDown (s : State) : Bool :=
  s.power.oscTimer.isSome || changesHeld s

/-- The sensors at a cold reset: the raw levels stay, the first sample accepts them (R38). -/
def SensorCell.coldFrom (c : SensorCell) : SensorCell := { raw := c.raw, accepted := c.raw, count := none, posted := false }

def Motion.coldFrom (m : Motion) : Motion :=
  { Motion.cold with
    docPresent := m.docPresent.coldFrom, docRead := m.docRead.coldFrom, paperPresent := m.paperPresent.coldFrom
    coverOpen := m.coverOpen.coldFrom, hook := m.hook.coldFrom, key := m.key.coldFrom }

/-- Every block at its cold values; DRAM keeps its contents, self-refresh is left once the oscillator runs (R155, R156, R166). -/
def coldState (s : State) : State :=
  let down := oscillatorDown s
  { State.reset with
    dram := { Dram.cold s.dram.cells s.dram.fitted with selfRefresh := s.dram.selfRefresh }
    motion := s.motion.coldFrom
    power := { Power.cold with oscTimer := if down then some 128 else none }
    now := s.now, freeCount := s.freeCount, pending := s.pending }

/-- COLD_RESET (R19, R41, R64, R84, R112, R128, R132, R136, R155, R156). A grant in progress completes (R166). -/
def execColdReset (s : State) : Host.Outcome State Fault Refusal := .next (coldState (completeGrant s).2)

/-- BOOT_SKIP_SAMPLE (R156). -/
def execBootSkipSample (high : Bool) (s : State) : Host.Outcome State Fault Refusal := .next (strapSampled high s)

/-- ROM_BYTE (R157 to R163). -/
def execRomByte (byte : Byte) (s : State) : Host.Outcome State Fault Refusal := .next (bootByte byte s)

/-- BLINK_TIMER_EXPIRY (R165). -/
def execBlinkTimerExpiry (s : State) : Host.Outcome State Fault Refusal :=
  match s.boot.result, s.boot.blinkTimer with
  | .failure k, some 0 => .next (s.updBoot (blinkNext k.pulses))
  | _, _ => .next s

/-! ## Memory controller (R137, R138) -/

/-- DRAM_GRANT (R138): the grant in progress completes, with all that its transfer's completion brings, and the next is given; a drained
sleep entry goes on (R150). -/
def execDramGrant (s : State) : Host.Outcome State Fault Refusal :=
  .next (continueSleepEntry (giveGrant (grantCompleted s)))

/-- REFRESH_TIMER_EXPIRY (R137): one more is owed. One that comes in step 2 of a sleep entry waits (R150). -/
def execRefreshTimerExpiry (s : State) : Host.Outcome State Fault Refusal :=
  if refreshDue s then
    .next (s.updDram fun d =>
      { d with
        refreshOwed := d.refreshOwed + 1
        refreshHeld := if requestsHeld s then d.refreshHeld + 1 else d.refreshHeld
        refreshTimer := d.refreshInterval })
  else .next s

/-! ## Chain unit (chapter 7) -/

/-- LINK_READ_COMPLETE (R114, R116, R118). -/
def execLinkReadComplete (c : ChainId) (s : State) : Host.Outcome State Fault Refusal :=
  .next (completedNow .chain (.link c) s)

/-- HEADER_READ_COMPLETE (R116 to R118). -/
def execHeaderReadComplete (c : ChainId) (s : State) : Host.Outcome State Fault Refusal :=
  .next (completedNow .chain (.header c) s)

/-- BODY_READ_COMPLETE (R115 to R117). -/
def execBodyReadComplete (c : ChainId) (s : State) : Host.Outcome State Fault Refusal :=
  .next (completedNow .chain (.body c) s)

/-- TAKEN_WRITE_COMPLETE (R114, R116, R117). -/
def execTakenWriteComplete (c : ChainId) (s : State) : Host.Outcome State Fault Refusal :=
  .next (completedNow .chain (.taken c) s)

/-- STATE_WRITE_COMPLETE (R119, R120, R127). -/
def execStateWriteComplete (c : ChainId) (s : State) : Host.Outcome State Fault Refusal :=
  .next (completedNow .chain (.state c) s)

/-- ENGINE_RESET_COMPLETE (R127). -/
def execEngineResetComplete (s : State) : Host.Outcome State Fault Refusal := .next (completedNow .chain .stopped s)

/-! ## Power unit (chapter 9) -/

/-- IDLE_TIMER_EXPIRY (R144, R147). -/
def execIdleTimerExpiry (s : State) : Host.Outcome State Fault Refusal := .next (idleExpired s)

/-- WAKE_TIMER_EXPIRY (R152, R153). -/
def execWakeTimerExpiry (s : State) : Host.Outcome State Fault Refusal := .next (wakeExpired s)

/-- OSCILLATOR_SETTLED (R153 to R155). -/
def execOscillatorSettled (s : State) : Host.Outcome State Fault Refusal := .next (settled s)

end Sys2Proof.Machine
end

