-- ==== Sys2Proof/Machine/ExecUnits.lean ====
section
/-! DEFINITION. The meanings of the events of the motion, scan, print and modem link units (chapters 2 to 6). An expiry needs its timer at
0, a completion its transfer, a boundary its lamp; without them the event does not arise and nothing changes (log entry 7). -/

namespace Sys2Proof.Machine

/-! ## Motion unit (chapter 2) -/

/-- The step due on a channel is issued for its owner (R22, R23). -/
def stepFor (c : ChannelId) (s : State) : State :=
  match (s.channel c).owner with
  | .none => s
  | .chain => match s.job c with
    | some j => if j.phase.runs then motionStep c j s else s
    | none => s
  | .scan => match s.scan.work with
    | some (.page j) => scanStep j s
    | _ => s
  | .print => match s.print.work with
    | some j => printStep j s
    | none => s

/-- STEP (R22, R23). -/
def execStep (c : ChannelId) (s : State) : Host.Outcome State Fault Refusal :=
  if (s.channel c).moving ∧ (s.channel c).stepDue = some 0 then .next (settle (stepFor c s)) else .next s

/-- HOLD_TIMER_EXPIRY (R25). -/
def execHoldTimerExpiry (c : ChannelId) (s : State) : Host.Outcome State Fault Refusal := .next (settle (holdExpired c s))

/-- SENSOR_ACCEPT (R38 to R40). -/
def execSensorAccept (n : Sensor) (s : State) : Host.Outcome State Fault Refusal := .next (acceptSensor n s)

/-- SENSOR_WAIT_TIMEOUT (R35). -/
def execSensorWaitTimeout (c : ChannelId) (s : State) : Host.Outcome State Fault Refusal :=
  if s.waitTimer c = some 0 then .next (settle (waitExpired c s)) else .next s

/-- SENSOR_RAW_CHANGE (R38). -/
def execSensorRawChange (n : Sensor) (level : Bool) (s : State) : Host.Outcome State Fault Refusal :=
  .next (rawChange n level s)

/-! ## Scan unit (chapter 3) -/

/-- LAMP_WARMUP_EXPIRY (R42, R44, R54). -/
def execLampWarmupExpiry (s : State) : Host.Outcome State Fault Refusal :=
  if s.scan.warmTimer = some 0 then .next (settle (setLamp .on none none s)) else .next s

/-- LAMP_LINGER_EXPIRY (R42). -/
def execLampLingerExpiry (s : State) : Host.Outcome State Fault Refusal :=
  if s.scan.lingerTimer = some 0 then .next (settle (setLamp .off none none s)) else .next s

/-- The line of the period just ended is offered to the record in progress (R44, R50, R62). -/
def boundary (samples : List Byte) (s : State) : State :=
  let s := s.updScan fun u => { u with lineTimer := some u.tables.geometry.period }
  match s.scan.work with
  | some (.page j) => captureRule samples j s
  | some (.gray j) => grayRule samples j s
  | none => s

/-- LINE_BOUNDARY (R44 to R51, R55 to R58, R62): the end of a line period. -/
def execLineBoundary (samples : List Byte) (s : State) : Host.Outcome State Fault Refusal :=
  if s.scan.lineTimer = some 0 then .next (settle (boundary samples s)) else .next s

/-- BAND_WAIT_EXPIRY (R57, R58). -/
def execBandWaitExpiry (s : State) : Host.Outcome State Fault Refusal :=
  match s.scan.bandWait, s.scan.work with
  | some 0, some (.page j) => .next (settle (memoryFull j s))
  | _, _ => .next s

/-- LINE_BUFFER_WRITE_COMPLETE (R7, R9, R49, R59). -/
def execLineBufferWriteComplete (s : State) : Host.Outcome State Fault Refusal :=
  .next (completedNow .scan .lineBuffer s)

/-- GRAY_ROW_WRITE_COMPLETE (R62). -/
def execGrayRowWriteComplete (s : State) : Host.Outcome State Fault Refusal :=
  .next (completedNow .scan .grayRow s)

/-! ## Print unit (chapters 4 and 5) -/

/-- SUPPLY_SETTLE_EXPIRY (R65, R85). -/
def execSupplySettleExpiry (s : State) : Host.Outcome State Fault Refusal :=
  if s.print.settleTimer = some 0 then .next (settle (setSupply .on none none s)) else .next s

/-- SUPPLY_LINGER_EXPIRY (R65). -/
def execSupplyLingerExpiry (s : State) : Host.Outcome State Fault Refusal :=
  if s.print.lingerTimer = some 0 then .next (settle (setSupply .off none none s)) else .next s

/-- A sample that falls together with an overheat expiry taken first is only offered to the highest-code result of the record that ended
(R79): the result's write, while it waits, takes the larger code. -/
def offerLate (addr highest code : Nat) (s : State) : State :=
  let s := s.updPrint fun u => { u with lateSample := none }
  if code ≤ highest then s
  else
    let (granted, waiting) := splitGranted s.dram .chain
    s.updDram fun d =>
      { d with chain := granted ++ waiting.map fun x =>
          if x.tag = .result .print ∧ x.addr = addr + 42 then { x with data := .write (be8 code) } else x }

/-- TEMP_SAMPLE_COMPLETE (R71, R79, R85): the end of a conversion. -/
def execTempSampleComplete (code : Byte) (s : State) : Host.Outcome State Fault Refusal :=
  match s.print.convTimer, s.print.lateSample with
  | some 0, _ => .next (settle (sampleDone code.toNat s))
  | some (_ + 1), _ => .next s
  | none, some (addr, highest) => .next (offerLate addr highest code.toNat s)
  | none, none => .next s

/-- FETCH_COMPLETE (R73, R75): the last read of the fetch has completed, which is the stamp's where there is one. -/
def execFetchComplete (s : State) : Host.Outcome State Fault Refusal :=
  match s.print.fetch with
  | .reading _ stamp => .next (completedNow .print (if stamp then .stamp else .source) s)
  | .idle | .waiting => .next s

/-- LINE_DUE (R75, R77). -/
def execLineDue (s : State) : Host.Outcome State Fault Refusal :=
  match s.print.dueTimer, s.print.work with
  | some 0, some j =>
    .next (settle ((s.updPrint fun u => { u with dueTimer := none }).updPrintJob { j with due := true }))
  | _, _ => .next s

/-- The record ends FAILED OVERHEAT; a conversion that is at its end falls together with the expiry (R79). -/
def overheated (j : PrintJob) (s : State) : State :=
  let late := if s.print.convTimer = some 0 then (inWork s .print).map fun t => (t.addr, j.highest) else none
  (finishPrint .failed .overheat j s).updPrint fun u => { u with lateSample := late }

/-- OVERHEAT_EXPIRY (R79). -/
def execOverheatExpiry (s : State) : Host.Outcome State Fault Refusal :=
  match s.print.overheat, s.print.work with
  | some 0, some j => .next (settle (overheated j s))
  | _, _ => .next s

/-- LOAD_END (R93). -/
def execLoadEnd (s : State) : Host.Outcome State Fault Refusal :=
  match s.print.sequence with
  | none => .next s
  | some q =>
    if q.loadTimer = some 0 then .next (s.updPrint fun u => { u with sequence := some (q.loadEnd (shiftTime u.heat)) })
    else .next s

/-- A group's energize has ended: the next group, the next kind or the line's completion (R76, R93). -/
def groupEnded (q : Sequence) (j : PrintJob) (s : State) : State :=
  let q := q.groupEnd (shiftTime s.print.heat)
  if q.finished then completeLine q.plan.overLines j s else s.updPrint fun u => { u with sequence := some q }

/-- GROUP_ENERGIZE_END (R76, R93). -/
def execGroupEnergizeEnd (s : State) : Host.Outcome State Fault Refusal :=
  match s.print.sequence, s.print.work with
  | some q, some j => if q.fireTimer = some 0 then .next (settle (groupEnded q j s)) else .next s
  | _, _ => .next s

/-! ## Modem link unit (chapter 6) -/

/-- FRAME_SYNC (R95, R96, R99, R102, R104). -/
def execFrameSync (s : State) : Host.Outcome State Fault Refusal := .next (settle (fetchSend (beginFrame s)))

/-- FRAME_REPORT (R95, R97 to R101, R103 to R108, R111). -/
def execFrameReport (report inData : Byte) (s : State) : Host.Outcome State Fault Refusal :=
  .next (settle (frameEnd report inData s))

/-- LINK_TIMER_EXPIRY (R96, R111). -/
def execLinkTimerExpiry (s : State) : Host.Outcome State Fault Refusal :=
  if s.modem.linkTimer = some 0 then .next (settle (linkDown s)) else .next s

/-- SEND_STORE_FETCH_COMPLETE (R102). -/
def execSendStoreFetchComplete (s : State) : Host.Outcome State Fault Refusal :=
  .next (completedNow .modem .sendFetch s)

/-- RECEIVE_WRITE_COMPLETE (R107, R109, R110). -/
def execReceiveWriteComplete (s : State) : Host.Outcome State Fault Refusal :=
  .next (completedNow .modem .receive s)

/-- RECEIVE_HOLD_EXPIRY (R108): the hold goes on with its timer idle. -/
def execReceiveHoldExpiry (s : State) : Host.Outcome State Fault Refusal :=
  if s.modem.holdTimer = some 0 then .next (postFault .receiveHold (s.updModem fun m => { m with holdTimer := none }))
  else .next s

/-- CONDITION_WAIT_TIMEOUT (R106): the ms waited are the timeout's. -/
def execConditionWaitTimeout (s : State) : Host.Outcome State Fault Refusal :=
  match s.modem.waitTimer, s.modem.sendWork with
  | some 0, some (.wait _ _ _ ms) => .next (settle (endSendAfter .failed .waitTimeout ms s))
  | _, _ => .next s

end Sys2Proof.Machine
end

