-- ==== Sys2Proof/Machine/Dispatch.lean ====
section
/-! DEFINITION. One arm for each command. -/

namespace Sys2Proof.Machine

def exec (i : Instr) (s : State) : Host.Outcome State Fault Refusal :=
  match i with
  | .coldReset => Sys2Proof.Machine.execColdReset s
  | .bootSkipSample high => Sys2Proof.Machine.execBootSkipSample high s
  | .start mask => Sys2Proof.Machine.execStart mask s
  | .engineReset mask => Sys2Proof.Machine.execEngineReset mask s
  | .engineResetComplete => Sys2Proof.Machine.execEngineResetComplete s
  | .goDoze mask => Sys2Proof.Machine.execGoDoze mask s
  | .goActive mask => Sys2Proof.Machine.execGoActive mask s
  | .goSleep mask => Sys2Proof.Machine.execGoSleep mask s
  | .cancel mask => Sys2Proof.Machine.execCancel mask s
  | .none mask => Sys2Proof.Machine.execNone mask s
  | .noCommand mask => Sys2Proof.Machine.execNoCommand mask s
  | .followNudge word => Sys2Proof.Machine.execFollowNudge word s
  | .cut word => Sys2Proof.Machine.execCut word s
  | .notesClear word => Sys2Proof.Machine.execNotesClear word s
  | .notemaskWrite word => Sys2Proof.Machine.execNotemaskWrite word s
  | .areaWrite word => Sys2Proof.Machine.execAreaWrite word s
  | .pagedrop word => Sys2Proof.Machine.execPagedrop word s
  | .busError cycle => Sys2Proof.Machine.execBusError cycle s
  | .hostDramAccess cycle => Sys2Proof.Machine.execHostDramAccess cycle s
  | .dramGrant => Sys2Proof.Machine.execDramGrant s
  | .refreshTimerExpiry => Sys2Proof.Machine.execRefreshTimerExpiry s
  | .linkReadComplete chain => Sys2Proof.Machine.execLinkReadComplete chain s
  | .headerReadComplete chain => Sys2Proof.Machine.execHeaderReadComplete chain s
  | .bodyReadComplete chain => Sys2Proof.Machine.execBodyReadComplete chain s
  | .takenWriteComplete chain => Sys2Proof.Machine.execTakenWriteComplete chain s
  | .stateWriteComplete chain => Sys2Proof.Machine.execStateWriteComplete chain s
  | .scanPage => Sys2Proof.Machine.execScanPage s
  | .grayCapture => Sys2Proof.Machine.execGrayCapture s
  | .scanTableLoad => Sys2Proof.Machine.execScanTableLoad s
  | .printPage => Sys2Proof.Machine.execPrintPage s
  | .heatTableLoad => Sys2Proof.Machine.execHeatTableLoad s
  | .sendBlock => Sys2Proof.Machine.execSendBlock s
  | .modeChange => Sys2Proof.Machine.execModeChange s
  | .conditionWait => Sys2Proof.Machine.execConditionWait s
  | .receiveBuffer => Sys2Proof.Machine.execReceiveBuffer s
  | .move channel => Sys2Proof.Machine.execMove channel s
  | .moveToEdge channel => Sys2Proof.Machine.execMoveToEdge channel s
  | .hold channel => Sys2Proof.Machine.execHold channel s
  | .release channel => Sys2Proof.Machine.execRelease channel s
  | .sensorWait channel => Sys2Proof.Machine.execSensorWait channel s
  | .motorTableLoad channel => Sys2Proof.Machine.execMotorTableLoad channel s
  | .step channel => Sys2Proof.Machine.execStep channel s
  | .holdTimerExpiry channel => Sys2Proof.Machine.execHoldTimerExpiry channel s
  | .sensorAccept sensor => Sys2Proof.Machine.execSensorAccept sensor s
  | .sensorWaitTimeout channel => Sys2Proof.Machine.execSensorWaitTimeout channel s
  | .lampWarmupExpiry => Sys2Proof.Machine.execLampWarmupExpiry s
  | .lampLingerExpiry => Sys2Proof.Machine.execLampLingerExpiry s
  | .lineBoundary samples => Sys2Proof.Machine.execLineBoundary samples s
  | .bandWaitExpiry => Sys2Proof.Machine.execBandWaitExpiry s
  | .lineBufferWriteComplete => Sys2Proof.Machine.execLineBufferWriteComplete s
  | .grayRowWriteComplete => Sys2Proof.Machine.execGrayRowWriteComplete s
  | .supplySettleExpiry => Sys2Proof.Machine.execSupplySettleExpiry s
  | .supplyLingerExpiry => Sys2Proof.Machine.execSupplyLingerExpiry s
  | .tempSampleComplete code => Sys2Proof.Machine.execTempSampleComplete code s
  | .fetchComplete => Sys2Proof.Machine.execFetchComplete s
  | .lineDue => Sys2Proof.Machine.execLineDue s
  | .overheatExpiry => Sys2Proof.Machine.execOverheatExpiry s
  | .loadEnd => Sys2Proof.Machine.execLoadEnd s
  | .groupEnergizeEnd => Sys2Proof.Machine.execGroupEnergizeEnd s
  | .frameSync => Sys2Proof.Machine.execFrameSync s
  | .frameReport report inData => Sys2Proof.Machine.execFrameReport report inData s
  | .linkTimerExpiry => Sys2Proof.Machine.execLinkTimerExpiry s
  | .sendStoreFetchComplete => Sys2Proof.Machine.execSendStoreFetchComplete s
  | .receiveWriteComplete => Sys2Proof.Machine.execReceiveWriteComplete s
  | .receiveHoldExpiry => Sys2Proof.Machine.execReceiveHoldExpiry s
  | .conditionWaitTimeout => Sys2Proof.Machine.execConditionWaitTimeout s
  | .idleTimerExpiry => Sys2Proof.Machine.execIdleTimerExpiry s
  | .wakeTimerExpiry => Sys2Proof.Machine.execWakeTimerExpiry s
  | .oscillatorSettled => Sys2Proof.Machine.execOscillatorSettled s
  | .romByte byte => Sys2Proof.Machine.execRomByte byte s
  | .blinkTimerExpiry => Sys2Proof.Machine.execBlinkTimerExpiry s
  | .sensorRawChange sensor level => Sys2Proof.Machine.execSensorRawChange sensor level s

end Sys2Proof.Machine
end

