-- ==== Sys2Proof/Machine/Tick.lean ====
section
/-! DEFINITION. What a step does when no command waits: one tick of the time base that runs, and the commands of the part's own steps
that have become due (log entry 6). -/

namespace Sys2Proof.Machine

def tickDown (t : Option Nat) : Option Nat := t.map fun n => n - 1

def atZero (t : Option Nat) : Bool := decide (t = some 0)

def countUp (t : Option Nat) : Option Nat := t.map fun n => n + 1

/-! ## One tick -/

def SensorCell.tick (c : SensorCell) : SensorCell := { c with count := countUp c.count }

def Motion.tickSensors (m : Motion) : Motion :=
  { m with
    docPresent := m.docPresent.tick, docRead := m.docRead.tick, paperPresent := m.paperPresent.tick
    coverOpen := m.coverOpen.tick, hook := m.hook.tick, key := m.key.tick }

def Channel.tick (c : Channel) : Channel := { c with holdTimer := tickDown c.holdTimer, stepDue := tickDown c.stepDue }

def Scan.tick (u : Scan) : Scan :=
  { u with
    warmTimer := tickDown u.warmTimer, lingerTimer := tickDown u.lingerTimer, lineTimer := tickDown u.lineTimer
    bandWait := tickDown u.bandWait }

def Sequence.tick (q : Sequence) : Sequence := 
  { q with loadTimer := tickDown q.loadTimer, fireTimer := tickDown q.fireTimer, pulse := false }

def Print.tick (u : Print) : Print :=
  { u with
    settleTimer := tickDown u.settleTimer, lingerTimer := tickDown u.lingerTimer, convTimer := tickDown u.convTimer
    dueTimer := tickDown u.dueTimer, overheat := tickDown u.overheat, sequence := u.sequence.map Sequence.tick
    lateSample := none }

def Modem.tick (m : Modem) : Modem :=
  { m with linkTimer := tickDown m.linkTimer, holdTimer := tickDown m.holdTimer, waitTimer := tickDown m.waitTimer }

/-- One 1 µs tick (Conventions, Time). The idle timer counts in ACTIVE and quiet (R144). -/
def fastTick (s : State) : State :=
  let q := quiet s
  let s := s.updDram fun d => { d with refreshTimer := d.refreshTimer - 1 }
  let s := s.updMotion fun m =>
    { m.tickSensors with d := m.d.tick, p := m.p.tick, waitD := tickDown m.waitD, waitP := tickDown m.waitP }
  let s := ((s.updScan Scan.tick).updPrint Print.tick).updModem Modem.tick
  let s := s.updPower fun p => if p.state = .active ∧ q then { p with idleTimer := p.idleTimer + 1 } else p
  let s := s.updBoot fun b => { b with blinkTimer := tickDown b.blinkTimer, romGap := false }
  { s with now := s.now + 1 }

/-- One period of the 32.768 kHz clock: sensors, link timer, wake timer, the settling of the oscillator (R142). -/
def slowTick (s : State) : State :=
  let s := s.updMotion Motion.tickSensors
  let s := s.updModem fun m => { m with linkTimer := tickDown m.linkTimer }
  s.updPower fun p => { p with wakeTimer := tickDown p.wakeTimer, oscTimer := tickDown p.oscTimer }

/-! ## The steps that are due -/

def onlyIf (b : Bool) (i : Instr) : List Instr := if b then [i] else []

/-- The step that a transfer's completion is. A source read with a stamp read behind it is none. -/
def completionOf (s : State) (t : Tag) : List Instr :=
  match t with
  | .link c => [.linkReadComplete c]
  | .header c => [.headerReadComplete c]
  | .body c => [.bodyReadComplete c]
  | .taken c => [.takenWriteComplete c]
  | .state c => [.stateWriteComplete c]
  | .stopped => [.engineResetComplete]
  | .lineBuffer => [.lineBufferWriteComplete]
  | .grayRow => [.grayRowWriteComplete]
  | .sendFetch => [.sendStoreFetchComplete]
  | .receive => [.receiveWriteComplete]
  | .stamp => [.fetchComplete]
  | .source => match s.print.fetch with
    | .reading _ true => []
    | .reading _ false | .idle | .waiting => [.fetchComplete]
  | .post | .progress _ | .result _ | .reason _ | .boot => []

/-- The grant in progress is the last burst of a transfer: its completion's step. -/
def completionDue (s : State) : List Instr :=
  match s.dram.grant with
  | some (.engine r _ b true) =>
    match s.dram.queue r with
    | x :: _ => if x.left ≤ b.size then completionOf s x.tag else []
    | [] => []
  | _ => []

/-- The step of a record handed to its engine. -/
def recordStep (c : ChainId) (k : Kind) : Instr :=
  let ch : ChannelId := if c = .paperMotion then .p else .d
  match k with
  | .scanPage => .scanPage | .grayCapture => .grayCapture | .scanTableLoad => .scanTableLoad
  | .printPage => .printPage | .heatTableLoad => .heatTableLoad | .sendBlock => .sendBlock
  | .modeChange => .modeChange | .conditionWait => .conditionWait | .receiveBuffer => .receiveBuffer
  | .move => .move ch | .moveToEdge => .moveToEdge ch | .hold => .hold ch | .release => .release ch
  | .sensorWait => .sensorWait ch | .motorTableLoad => .motorTableLoad ch

def handedStep (s : State) (c : ChainId) : List Instr :=
  match (s.chain c).taken with
  | some t => onlyIf (decide (t.stage = .handed)) (recordStep c t.kind)
  | none => []

def channelDue (c : ChannelId) (s : State) : List Instr :=
  onlyIf (atZero (s.channel c).stepDue) (.step c) ++ onlyIf (atZero (s.channel c).holdTimer) (.holdTimerExpiry c)
    ++ onlyIf (atZero (s.waitTimer c)) (.sensorWaitTimeout c)

def sensorDue (s : State) (n : Sensor) : List Instr :=
  onlyIf (debounced n s) (.sensorAccept n)

/-- The arbiter has a grant to complete or to give. -/
def grantDue (s : State) : Bool :=
  !s.dram.selfRefresh && !slowBase s
    && (s.dram.grant.isSome || refreshWaits s || s.bus.cycle.isSome || (firstEngine s.dram).isSome)

def sequenceDue (s : State) : List Instr :=
  match s.print.sequence with
  | none => []
  | some q => onlyIf (atZero q.loadTimer) .loadEnd ++ onlyIf (atZero q.fireTimer) .groupEnergizeEnd

/-- The part's own steps that are due, in a fixed order. Steps that carry data from outside (a line, a temperature, a frame, a ROM
byte, the strap, a sensor pin, the host, the RESET pin) are never among them. -/
def dueSteps (s : State) : List Instr :=
  (if grantDue s then completionDue s else [])
    ++ (allChains.map (handedStep s)).flatten
    ++ channelDue .d s ++ channelDue .p s
    ++ (allSensors.map (sensorDue s)).flatten
    ++ onlyIf (atZero s.scan.warmTimer) .lampWarmupExpiry ++ onlyIf (atZero s.scan.lingerTimer) .lampLingerExpiry
    ++ onlyIf (atZero s.scan.bandWait) .bandWaitExpiry
    ++ onlyIf (atZero s.print.settleTimer) .supplySettleExpiry ++ onlyIf (atZero s.print.lingerTimer) .supplyLingerExpiry
    ++ onlyIf (atZero s.print.dueTimer) .lineDue ++ onlyIf (atZero s.print.overheat) .overheatExpiry ++ sequenceDue s
    ++ onlyIf (atZero s.modem.linkTimer) .linkTimerExpiry ++ onlyIf (atZero s.modem.holdTimer) .receiveHoldExpiry
    ++ onlyIf (atZero s.modem.waitTimer) .conditionWaitTimeout
    ++ onlyIf (idleDue s) .idleTimerExpiry ++ onlyIf (atZero s.power.wakeTimer) .wakeTimerExpiry
    ++ onlyIf (atZero s.power.oscTimer) .oscillatorSettled ++ onlyIf (atZero s.boot.blinkTimer) .blinkTimerExpiry
    ++ onlyIf (refreshDue s) .refreshTimerExpiry
    ++ onlyIf (grantDue s) .dramGrant

/-- The next output line is due in this very tick, since the last one took its interval or more (R77). -/
def lineDueNow (s : State) : Bool := atZero s.print.dueTimer && s.print.work.isSome

/-- One tick, and the steps that are due after it are put into the queue. A line that is due at once comes first, without a tick (R77). -/
def tick (s : State) : State :=
  if lineDueNow s then { s with pending := s.pending ++ [.lineDue] }
  else
  let s := if slowBase s then slowTick s else fastTick s
  { s with pending := s.pending ++ dueSteps s }

end Sys2Proof.Machine
end

