-- ==== Sys2Proof/Safety.lean ====
section
/-! DEFINITION. What a safe run is, and the words the statements use. -/

namespace Sys2Proof.Machine

/-- The state after k steps, if none of them stops. -/
def runs (k : Nat) (s : State) : Option State :=
  match k with
  | 0 => some s
  | k + 1 => match step s with
    | .next s' => runs k s'
    | .fault _ => none
    | .refused _ => none

/-- k steps run without a fault or a refusal and end with memory in its canonical form. -/
def safeFor (k : Nat) (s : State) : Prop := ∃ t, runs k s = some t ∧ Memory.wf t = true

/-- The command completes: it answers a next state with the property. -/
def Completes (i : Instr) (s : State) (P : State → Prop) : Prop := ∃ t, exec i s = .next t ∧ P t

/-- The host can command: its clock runs, HOST-RESET is released and it holds no DRAM cycle (R129). -/
def hostFree (s : State) : Prop := hostRuns s = true ∧ s.bus.cycle = none

/-- The host bus after a register write (R129, R131). -/
def writtenBus : HostBus := { cycle := none, rate := 0, result := .written, snapshot := none, follows := none }

/-- The scan and print units have no record, no motion record is in work, no power request is armed and the part is ACTIVE: nothing
waits for an event to let it go on. No event is half made: the page store has nothing unposted. -/
def calm (s : State) : Prop :=
  s.scan.work = none ∧ s.print.work = none ∧ s.motion.jobD = none ∧ s.motion.jobP = none ∧ s.power.slot = .none
    ∧ s.power.state = .active ∧ s.store.unposted = none

/-- No power request is armed, the part is ACTIVE, and no event is half made. -/
def plain (s : State) : Prop := s.power.slot = .none ∧ s.power.state = .active ∧ s.store.unposted = none

/-- The scan unit waits for an event: its record may not take channel D, its lamp is not ON yet, PAUSED has too little room, CLOSING has
a buffer to write, and no first step is due at once. -/
def scanRests (s : State) : Prop :=
  (∀ j, s.scan.work = some (.page j) →
      (j.phase = .waitOwner → s.motion.d.claimable = false) ∧ (j.phase = .warmUp → s.scan.lamp ≠ .on)
        ∧ (j.phase = .paused → s.store.room < margin j.request.spl j.top) ∧ (j.phase = .closing → s.scan.buffers ≠ [])
        ∧ (s.motion.d.owner = .scan → s.motion.d.stepDue = some 0 → s.motion.d.issued ≠ 0))
    ∧ (∀ j, s.scan.work = some (.gray j) →
        (j.phase = .waitOwner → s.motion.d.claimable = false) ∧ (j.phase = .warmUp → s.scan.lamp ≠ .on))

/-- The print unit waits for an event: its record may not take channel P, its page is EMPTY, its supply is not ready, its source line is
not there, no line can start, output has not ended, and no first step is due at once. -/
def printRests (s : State) : Prop :=
  ∀ j, s.print.work = some j →
    (j.phase = .waitOwner → s.motion.p.claimable = false)
      ∧ (j.phase = .waitPage → ∀ i, j.request.source = .page i → (s.store.page i).state = .empty)
      ∧ (j.phase = .supplySettle → s.print.supply = .on → s.print.tempFlag = false)
      ∧ (s.print.fetch = .waiting → sourceReady j.request.source s = false ∧ sourceLines j.request.source s = none)
      ∧ (j.phase = .printing ∨ j.phase = .lineWait → j.lineActive = false → outputEnded j s = false)
      ∧ (j.due = true → j.phase = .printing ∨ j.phase = .lineWait →
          s.print.lineStore = none ∧ (j.phase = .printing → s.print.fetch ≠ .waiting))
      ∧ (s.motion.p.owner = .print → s.motion.p.stepDue = some 0 → s.motion.p.issued ≠ 0)

/-- A channel's motion record waits for an event: an engine owns the channel, or no first step is due at once. -/
def motionRests (c : ChannelId) (s : State) : Prop :=
  ∀ j, s.job c = some j →
    (j.phase = .waitOwner → (s.channel c).owner = .scan ∨ (s.channel c).owner = .print)
      ∧ ((s.channel c).owner = .chain → j.phase.runs = true → (s.channel c).stepDue = some 0 → (s.channel c).issued ≠ 0)

/-- Every unit waits for an event, records in work or not: how an event leaves the part. A calm state is one. -/
def atRest (s : State) : Prop := plain s ∧ scanRests s ∧ printRests s ∧ motionRests .d s ∧ motionRests .p s

/-- Every byte of DRAM is as before, and so are the fitted and installed sizes. -/
def keptMemory (s t : State) : Prop :=
  t.dram.cells = s.dram.cells ∧ t.dram.fitted = s.dram.fitted ∧ t.dram.installed = s.dram.installed

/-- Host bus, registers and boot loader are as before. -/
def keptHost (s t : State) : Prop := t.bus = s.bus ∧ t.regs = s.regs ∧ t.boot = s.boot

/-- The power unit is as before but for the idle timer (R144). -/
def keptPower (s t : State) : Prop := t.power = { s.power with idleTimer := t.power.idleTimer }

/-- The page store and the four engines are as before. -/
def keptEngines (s t : State) : Prop :=
  t.store = s.store ∧ t.motion = s.motion ∧ t.scan = s.scan ∧ t.print = s.print ∧ t.modem = s.modem

/-- DRAM, host bus, registers, boot loader and power unit are as before, but for the idle timer; and so are all chains but one. -/
def keptBut (c : ChainId) (s t : State) : Prop :=
  keptMemory s t ∧ keptHost s t ∧ keptPower s t ∧ ∀ e, e ≠ c → t.chain e = s.chain e

/-- Everything but the chains, DRAM's queues, NOTES and the idle timer is as before. -/
def keptButChains (s t : State) : Prop :=
  keptMemory s t ∧ t.bus = s.bus ∧ t.boot = s.boot ∧ keptPower s t ∧ keptEngines s t

/-- The free list of a page store is these bands, in order (R2, R3). -/
def freeList (st : PageStore) (l : List Nat) : Prop :=
  st.count = l.length ∧ st.head = l.head? ∧ st.tail = l.getLast? ∧ l.Nodup
    ∧ ∀ (n b : Nat), l[n]? = some b →
        b < st.bands.length ∧ st.band b = { state := .free, page := 0, lines := 0, next := l[n + 1]? }

/-- The bands of page i are these, in order (R2, R5). -/
def pageChain (st : PageStore) (i : Nat) (l : List Nat) : Prop :=
  (st.page i).count = l.length ∧ (st.page i).first = l.head? ∧ (st.page i).last = l.getLast? ∧ l.Nodup
    ∧ ∀ (n b : Nat), l[n]? = some b →
        b < st.bands.length ∧ (st.band b).page = i ∧ (st.band b).state ≠ .free ∧ (st.band b).next = l[n + 1]?

/-- A sensor's debounce count has reached the debounce time, in ticks or in periods of the 32.768 kHz clock (R38). -/
abbrev differsLong (n : Sensor) (s : State) : Prop :=
  (match (s.sensor n).count with
    | some k => decide ((if slowBase s then (s.motion.debounceMs * 32768 + 999) / 1000 else s.motion.debounceMs * 1000) ≤ k)
    | none => false) = true

/-- No grant of the requester was begun for a withdrawn transfer; such a one completes before any other transfer of it moves (R138). -/
abbrev noneDead (r : Requester) (s : State) : Prop :=
  (match s.dram.grant with
    | some (.engine r' _ _ live) => live || decide (r' ≠ r)
    | _ => true) = true

/-- The first transfer of a requester is a read of this tag, inside the fitted DRAM, that brings these bytes; `rest` waits behind it. -/
def lastRead (r : Requester) (tag : Tag) (bytes : List Byte) (rest : List Xfer) (s : State) : Prop :=
  ∃ addr n got, s.dram.queue r = { tag := tag, addr := addr, data := .read n got, note := none } :: rest
    ∧ addr + n ≤ s.dram.fitted ∧ bytes = got ++ readBytes s addr n ∧ noneDead r s

/-- The first transfer of a requester is a write of this tag of these bytes to this address; `rest` waits behind it. -/
def lastWrite (r : Requester) (tag : Tag) (addr : Nat) (bytes : List Byte) (rest : List Xfer) (s : State) : Prop :=
  s.dram.queue r = { tag := tag, addr := addr, data := .write bytes, note := none } :: rest ∧ noneDead r s

/-- The state with a requester's first transfer gone, its grant over, and the engine group the last of the pair to be served (R138). -/
def served (r : Requester) (rest : List Xfer) (s : State) : State :=
  { s with dram := { s.dram.setQueue r rest with grant := grantOver r s.dram.grant, hostTookLast := false } }

/-- The idle timer restarts while the part is not quiet (R144): all that follows an event in a calm state. -/
def rested (s : State) : State := if quiet s then s else { s with power := { s.power with idleTimer := 0 } }

/-- The writes of a record's end in their order: result fields and result word (log entry 59), REASON, STATE (R119). -/
def endXfers (c : ChainId) (addr : Nat) (o : RecordOutcome) (why : Reason) (results : List (Nat × List Byte)) : List Xfer :=
  results.map (fun f => { tag := .result c, addr := addr + f.1, data := .write f.2, note := none })
    ++ [{ tag := .reason c, addr := addr + 7, data := .write (be8 why.code), note := none },
        { tag := .state c, addr := addr + 6, data := .write (be8 o.code), note := none }]

/-- The state with transfers asked of the CHAIN requester, in order, behind those that wait. -/
def asking (xs : List Xfer) (s : State) : State := { s with dram := { s.dram with chain := s.dram.chain ++ xs } }

/-- A write to the control area asked of the CHAIN requester. -/
def areaPost (s : State) (offset : Nat) (bytes : List Byte) (note : Option Note) : Xfer :=
  { tag := .post, addr := areaBase s + offset, data := .write bytes, note := note }

/-- The state with one chain replaced. -/
def withChain (c : ChainId) (ch : Chain) (s : State) : State := { s with chains := s.chains.set c ch }

/-- The state with the record r of the chain ending: its outcome handed over and its end's writes asked for (R119). -/
def ending (c : ChainId) (r : Taken) (o : RecordOutcome) (why : Reason) (results : List (Nat × List Byte)) (s : State) : State :=
  withChain c { s.chain c with taken := some { r with stage := .ending o (s.chain c).cutPending } }
    (asking (endXfers c r.addr o why results) s)

/-- The record r is TAKEN on the chain, of the kind given, and its engine has not acted on it; no cut is pending. -/
def justHanded (c : ChainId) (k : Kind) (r : Taken) (s : State) : Prop :=
  (s.chain c).taken = some r ∧ r.kind = k ∧ r.stage = .handed ∧ (s.chain c).cutPending = false

/-- The record TAKEN on the chain ends with this outcome and reason: it is ending, and its REASON and STATE writes are asked for on the
CHAIN requester, one behind the other (R119). -/
def EndsWith (c : ChainId) (r : Taken) (o : RecordOutcome) (why : Reason) (s t : State) : Prop :=
  (t.chain c).taken = some { r with stage := .ending o (s.chain c).cutPending }
    ∧ ∃ before after, t.dram.chain = before ++
        [{ tag := .reason c, addr := r.addr + 7, data := .write (be8 why.code), note := none },
         { tag := .state c, addr := r.addr + 6, data := .write (be8 o.code), note := none }] ++ after

end Sys2Proof.Machine
end

