-- ==== Sys2Proof/WellFormed.lean ====
section
/-! DEFINITION. Which commands are well formed: the operands the spec's event can carry. -/

namespace Sys2Proof

/-- The cut bits of a NUDGE write are bits 8 to 13 (R122, section 11.2). -/
def cutBits (word : Half) : Half := word &&& 0x3F00

/-- A line has L samples, L a multiple of 4 in 1728 to 4096 (R45). -/
def lineLengthOk (n : Nat) : Bool := decide (1728 ≤ n ∧ n ≤ 4096 ∧ n % 4 = 0)

/-- A byte write carries one byte (R129). -/
def accessOk (c : HostCycle) : Bool :=
  match c.access with
  | .read => true
  | .write data => c.isWord || decide (data.toNat < 256)

/-- A word access is at an even address; an odd one is a bus error whatever the address (R129, R130). -/
def alignedCycle (c : HostCycle) : Bool := !c.isWord || decide (c.addr.toNat % 2 = 0)

/-- DRAM is at most 4 MiB (R136), so no DRAM cycle has an address at or above it. -/
def dramCycle (c : HostCycle) : Bool := decide (c.addr.toNat < 4194304)

/-- The well-formed commands. FOLLOW_NUDGE and CUT share the NUDGE register: the cut bits tell them apart. -/
def Instr.wf : Instr → Bool
  | .followNudge word => decide (cutBits word = 0)
  | .cut word => decide (cutBits word ≠ 0)
  | .busError cycle => accessOk cycle
  | .hostDramAccess cycle => accessOk cycle && alignedCycle cycle && dramCycle cycle
  | .lineBoundary samples => lineLengthOk samples.length
  | .coldReset | .bootSkipSample _ | .start _ | .engineReset _ | .engineResetComplete | .goDoze _ | .goActive _
  | .goSleep _ | .cancel _ | .none _ | .noCommand _ | .notesClear _ | .notemaskWrite _ | .areaWrite _ | .pagedrop _
  | .dramGrant | .refreshTimerExpiry | .linkReadComplete _ | .headerReadComplete _ | .bodyReadComplete _
  | .takenWriteComplete _ | .stateWriteComplete _ | .scanPage | .grayCapture | .scanTableLoad | .printPage
  | .heatTableLoad | .sendBlock | .modeChange | .conditionWait | .receiveBuffer | .move _ | .moveToEdge _ | .hold _
  | .release _ | .sensorWait _ | .motorTableLoad _ | .step _ | .holdTimerExpiry _ | .sensorAccept _
  | .sensorWaitTimeout _ | .lampWarmupExpiry | .lampLingerExpiry | .bandWaitExpiry | .lineBufferWriteComplete
  | .grayRowWriteComplete | .supplySettleExpiry | .supplyLingerExpiry | .tempSampleComplete _ | .fetchComplete
  | .lineDue | .overheatExpiry | .loadEnd | .groupEnergizeEnd | .frameSync | .frameReport _ _ | .linkTimerExpiry
  | .sendStoreFetchComplete | .receiveWriteComplete | .receiveHoldExpiry | .conditionWaitTimeout | .idleTimerExpiry
  | .wakeTimerExpiry | .oscillatorSettled | .romByte _ | .blinkTimerExpiry | .sensorRawChange _ _ => true

end Sys2Proof
end

