-- ==== Sys2Proof/Certificates/Slice0/Obligations.lean ====
section
/-! DEFINITION. The statements for the provers. -/

open Sys2Proof Sys2Proof.Machine

/-- For every command c and state s, a step of s with c at the front of its queue is exec of c on s with the rest of
the queue. -/
def Obligations.StepRunsFrontCommand : Prop :=
  ∀ (c : Instr) (s : State), step { s with pending := c :: s.pending } = exec c s

/-- In every state a step answers a next state. The spec gives every command an effect or none, and no stop. That a
command whose event does not arise changes nothing is the model's choice (log entry 7). -/
def Obligations.StepNeverStops : Prop :=
  ∀ s : State, ∃ t, step s = .next t

/-- On an empty queue a step answers a next state with every byte of DRAM, the host bus, the registers and the boot
result as before; the tick count rises by one while the main oscillator runs and stays while it is stopped or not
settled. An output line that is due in this very tick, its predecessor having taken its interval or more (R77), comes
first: LINE_DUE enters the queue and no time passes. That a tick is what an empty queue does, and where the steps that
are due enter the queue, is the model's choice (log entry 6). -/
def Obligations.TickOnEmptyQueue : Prop :=
  ∀ s : State, s.pending = [] →
    (s.print.dueTimer = some 0 → s.print.work ≠ none → step s = .next { s with pending := [.lineDue] })
      ∧ (s.print.dueTimer ≠ some 0 ∨ s.print.work = none → ∃ t, step s = .next t ∧ keptMemory s t ∧ t.bus = s.bus
          ∧ t.regs = s.regs ∧ t.boot.result = s.boot.result ∧ t.chains = s.chains ∧ t.store = s.store
          ∧ t.now = (if s.power.state = .sleep ∨ s.power.oscTimer.isSome then s.now else s.now + 1))

/-- State.reset has the values the spec states: STOPPED, AREA 0, NOTES 0, NOTEMASK 0x03FF, wake mask empty, 1 MiB, 15
µs, refresh counter and count owed 0, no self-refresh, the history bit at the host, EMPTY chains with cursor 0, no
pool and room 0, both channels OFF with owner NONE and position 0, lamp and supply OFF, white history lines, latest
temperature code 0, link DOWN with mode code and accepted code 0, ACTIVE with slot NONE, boot result NONE and HOST-
RESET asserted. -/
def Obligations.ResetValues : Prop :=
  (let s := State.reset
   s.regs = { area := 0, notes := 0, noteMask := 0x3FF#10, wakeMask := 0, engine := .stopped }
    ∧ s.dram.installed = 1048576 ∧ s.dram.refreshInterval = 15 ∧ s.dram.refreshRow = 0 ∧ s.dram.refreshOwed = 0
    ∧ s.dram.selfRefresh = false ∧ s.dram.hostTookLast = true
    ∧ (∀ c, (s.chain c).state = .empty ∧ (s.chain c).cursor = 0 ∧ (s.chain c).cutPending = false
        ∧ (s.chain c).follow = .idle ∧ (s.chain c).taken = none)
    ∧ s.store.head = none ∧ s.store.tail = none ∧ s.store.count = 0 ∧ s.store.room = 0
    ∧ (∀ c, (s.channel c).state = .off ∧ (s.channel c).owner = .none ∧ (s.channel c).position = 0
        ∧ (s.channel c).phase = 0 ∧ (s.channel c).ramp = 0 ∧ (s.channel c).lastStep = none
        ∧ (s.channel c).table.stride = 2 ∧ (s.channel c).table.ramp = [5000] ∧ (s.channel c).table.holdMs = 500)
    ∧ s.scan.lamp = .off ∧ s.scan.buffers = [] ∧ s.scan.captureRef = 0
    ∧ s.print.supply = .off ∧ s.print.h1 = Line.white ∧ s.print.h2 = Line.white ∧ s.print.tempCode = 0
    ∧ s.modem.linkUp = false ∧ s.modem.mode = 0 ∧ s.modem.code = 0 ∧ s.modem.send = .idle
    ∧ s.power.state = .active ∧ s.power.slot = .none ∧ s.boot.result = .none ∧ s.boot.hostReset = true)

/-- From every state whose DRAM is in canonical form (addresses strictly rising, no entry that reads as an unlisted
address does), a step gives a state whose DRAM is in canonical form. The form is the model's own (log entry 3). -/
def Obligations.MemoryCanonicalKept : Prop :=
  ∀ s t : State, Memory.wf s = true → step s = .next t → Memory.wf t = true

/-- From every state in which the installed size is 1, 2 or 4 MiB, the refresh interval is 8 to 31 µs and the refresh
row counter lies below 1024, a step gives such a state. -/
def Obligations.DramGeometryKept : Prop :=
  (let legal := fun s : State =>
     (s.dram.installed = 1048576 ∨ s.dram.installed = 2097152 ∨ s.dram.installed = 4194304)
      ∧ 8 ≤ s.dram.refreshInterval ∧ s.dram.refreshInterval ≤ 31 ∧ s.dram.refreshRow < 1024
   ∀ s t : State, legal s → step s = .next t → legal t)

/-- Every step keeps this: in SLEEP and WAKING the DRAM is in self-refresh; it is in self-refresh in no other state,
but for the oscillator's wait that a cold reset makes; the oscillator timer runs in WAKING and not in SLEEP; and where
it runs outside WAKING the cold reset has just been made, so that the part is ACTIVE or DOZE, the strap is not
sampled, there is no boot result and HOST-RESET is asserted. The model's choices in it: DRAM leaves self-refresh only
at the end of the oscillator's wait, which runs through all of WAKING (log entry 20), and the wait that a cold reset
makes is timed by the same oscillator timer (log entry 22). The boot state before the strap's sample is the model's
own (log entry 69). -/
def Obligations.SelfRefreshLawKept : Prop :=
  (let law := fun s : State =>
     (s.power.state = .sleep ∨ s.power.state = .waking → s.dram.selfRefresh = true)
      ∧ (s.dram.selfRefresh = true → s.power.state = .sleep ∨ s.power.state = .waking ∨ s.power.oscTimer.isSome)
      ∧ (s.power.state = .waking → s.power.oscTimer.isSome) ∧ (s.power.state = .sleep → s.power.oscTimer = none)
      ∧ (s.power.oscTimer.isSome → s.power.state ≠ .waking →
          (s.power.state = .active ∨ s.power.state = .doze) ∧ s.boot.state = .awaitStrap ∧ s.boot.result = .none
            ∧ s.boot.hostReset = true)
   ∀ s t : State, law s → step s = .next t → law t)

/-- State.reset has its DRAM in canonical form, the geometry of a cold reset (1 MiB, 15 µs, row 0), and is ACTIVE, out
of self-refresh, with the oscillator running. -/
def Obligations.ResetMeetsInvariants : Prop :=
  Memory.wf State.reset = true ∧ State.reset.dram.installed = 1048576 ∧ State.reset.dram.refreshInterval = 15
    ∧ State.reset.dram.refreshRow < 1024 ∧ State.reset.dram.selfRefresh = false
    ∧ State.reset.power.state = .active ∧ State.reset.power.oscTimer = none

/-- In a state whose DRAM is in canonical form, after a write of bytes from address a, each written byte below the
fitted size reads back as written, and every byte outside them reads as before. A write beyond the fitted DRAM is
lost. -/
def Obligations.WrittenBytesReadBack : Prop :=
  ∀ (s : State) (a : Nat) (bytes : List Byte), Memory.wf s = true →
    (∀ i (h : i < bytes.length), a + i < s.dram.fitted → readByte (writeBytes s a bytes) (a + i) = bytes[i])
      ∧ (∀ x, (x < a ∨ a + bytes.length ≤ x) → readByte (writeBytes s a bytes) x = readByte s x)
      ∧ (∀ x, s.dram.fitted ≤ x → cellsRead (writeBytes s a bytes).dram.cells x = cellsRead s.dram.cells x)

/-- A cold reset leaves the engine STOPPED and every chain EMPTY with cursor 0, cut-pending clear and no follow. With
the engine STOPPED and the chains so, every command but START, a host bus cycle (which may write START) and the two
that are other rows for one leaves the engine STOPPED and every chain as it is: no boot step, grant, completion,
nudge, cut, record command, timer or event starts the engine or takes a record. With no grant in progress a cold reset
writes no byte of DRAM; that a grant in progress completes first is the model's reading of R166 (log entry 21). The
boot state before the strap's sample is the model's own (log entry 69). -/
def Obligations.ColdResetChains : Prop :=
  (∀ s : State, Completes .coldReset s fun t => t.regs.engine = .stopped
      ∧ (∀ c, (t.chain c).state = .empty ∧ (t.chain c).cursor = 0 ∧ (t.chain c).cutPending = false
          ∧ (t.chain c).follow = .idle ∧ (t.chain c).taken = none)
      ∧ (s.dram.grant = none → t.dram.cells = s.dram.cells))
    ∧ (∀ (s : State) (i : Instr), s.regs.engine = .stopped → s.chains = Chains.cold → (∀ m, i ≠ .start m) →
        (∀ c, i ≠ .busError c) → (∀ c, i ≠ .hostDramAccess c) →
        Completes i s fun t => t.regs.engine = .stopped ∧ t.chains = Chains.cold)

/-- Sampled once after a cold reset, with the oscillator running: a high strap gives ENDED, SKIPPED and HOST-RESET
released, a low one READING-DIRECTORY from ROM address 0 with the CRC at 0xFFFF; nothing else changes, and a later
sample changes nothing. In LOADING with the part ACTIVE: an image byte goes into the 16-byte store and the CRC, and
the store up to a 16-byte boundary of DRAM addresses or the section's end is asked for as a BOOT burst; with the store
full no byte arrives. The last byte of a table section: a CRC mismatch ends FAILED SECTION-CHECK, a wrong length or
value FAILED TABLE-FORMAT, the table as it was, else the table is replaced. The completed last burst of an image, or a
good table: after the last section the boot is ENDED, OK with the count, HOST-RESET released; else the next entry is
checked and its read begins, or the boot ends FAILED SECTION-RANGE; an image whose CRC differs ends it FAILED SECTION-
CHECK. The select gap between transactions is a flag (R157). The boot state before the strap's sample is the model's
own (log entry 69). That a byte arriving in the select gap is taken and ends it is the model's choice (log entry 73).
-/
def Obligations.BootSkipOutcome : Prop :=
  (∀ s : State, s.boot.state = .awaitStrap → s.power.oscTimer = none →
      exec (.bootSkipSample true) s
          = .next { s with boot := { s.boot with state := .ended, result := .skipped, hostReset := false } }
        ∧ exec (.bootSkipSample false) s
          = .next { s with boot :=
              { s.boot with state := .readingDirectory, reading := true, romAddr := 0, crc := 0xFFFF#16, directory := [] } })
    ∧ (∀ (s : State) (high : Bool), s.boot.state ≠ .awaitStrap → exec (.bootSkipSample high) s = .next s)
    ∧ ∀ (s : State) (e : DirEntry), s.boot.state = .loading → s.boot.entries[s.boot.index]? = some e → s.power.state = .active →
    (let failed := fun (k : BootFailure) (t : State) => t.boot.state = .failed ∧ t.boot.result = .failure k
       ∧ t.boot.faultOut = true ∧ t.boot.reading = false ∧ t.boot.hostReset = s.boot.hostReset
     let goes := fun (t : State) =>
       (s.boot.index + 1 = s.boot.entries.length → t.boot.state = .ended ∧ t.boot.result = .ok (s.boot.loaded + 1)
           ∧ t.boot.hostReset = false ∧ t.boot.reading = false)
         ∧ (∀ n, s.boot.entries[s.boot.index + 1]? = some n →
             (let good := 1 ≤ n.kind ∧ n.kind ≤ 5 ∧ 1 ≤ n.length ∧ n.length ≤ 1048576 ∧ n.rom + n.length ≤ 0x1000000
                ∧ (n.kind = 1 → n.dest + n.length ≤ s.dram.installed)
              (good → t.boot.state = .loading ∧ t.boot.index = s.boot.index + 1 ∧ t.boot.loaded = s.boot.loaded + 1
                  ∧ t.boot.reading = true ∧ t.boot.romGap = true ∧ t.boot.romAddr = n.rom ∧ t.boot.got = 0
                  ∧ t.boot.crc = 0xFFFF#16 ∧ t.boot.hostReset = s.boot.hostReset)
                ∧ (¬ good → failed .sectionRange t)))
     (∀ b, s.boot.reading = true → e.kind = 1 → s.boot.got < e.length → s.boot.store.length < 16 → s.boot.asked = 0 →
        (let st := s.boot.store ++ [b]
         let n := min (16 - s.boot.storeAddr % 16) (e.dest + e.length - s.boot.storeAddr)
         let took := { s.boot with
           got := s.boot.got + 1, romAddr := s.boot.romAddr + 1, romGap := false, crc := crcByte s.boot.crc b
           reading := decide (s.boot.got + 1 < e.length), store := st }
         (n = 0 ∨ st.length < n → exec (.romByte b) s = .next { s with boot := took })
          ∧ (0 < n → n ≤ st.length → exec (.romByte b) s = .next { s with
              boot := { took with asked := n }
              dram := { s.dram with boot := s.dram.boot ++
                [{ tag := .boot, addr := s.boot.storeAddr, data := .write (st.take n), note := none }] } })))
      ∧ (∀ b, e.kind = 1 → 16 ≤ s.boot.store.length → exec (.romByte b) s = .next s)
      ∧ (∀ b, s.boot.reading = true → s.boot.got + 1 = e.length →
          (let data := s.boot.staging ++ [b]
           let same := fun (t : State) => t.motion = s.motion ∧ t.scan = s.scan ∧ t.print = s.print
           let table := fun {α : Type} (size : Nat) (parsed : Option α) (put : α → State → Prop) =>
             Completes (.romByte b) s fun t => t.dram.cells = s.dram.cells ∧ t.regs = s.regs ∧ t.chains = s.chains
               ∧ (crcByte s.boot.crc b ≠ e.crc → failed .sectionCheck t ∧ same t)
               ∧ (crcByte s.boot.crc b = e.crc → data.length ≠ size ∨ parsed = none → failed .tableFormat t ∧ same t)
               ∧ (∀ v, crcByte s.boot.crc b = e.crc → data.length = size → parsed = some v → put v t ∧ goes t)
           (e.kind = 3 → table 48 (heatTableOf data) fun v t =>
              t.print = { s.print with heat := v } ∧ t.motion = s.motion ∧ t.scan = s.scan)
            ∧ (e.kind = 4 → table 76 (motorTableOf data) fun v t =>
                t.motion = { s.motion with d := { s.motion.d with table := v } } ∧ t.print = s.print ∧ t.scan = s.scan)
            ∧ (e.kind = 5 → table 76 (motorTableOf data) fun v t =>
                t.motion = { s.motion with p := { s.motion.p with table := v } } ∧ t.print = s.print ∧ t.scan = s.scan)
            ∧ (e.kind = 2 → table (scanPartSize (field data 0 1)) (scanTablesOf s.scan.tables data) fun v t =>
                t.scan = { s.scan with tables := v } ∧ t.print = s.print ∧ t.motion = s.motion)))
      ∧ (e.kind = 1 → s.boot.got = e.length → s.boot.asked = s.boot.store.length →
          s.dram.boot = [{ tag := .boot, addr := s.boot.storeAddr, data := .write s.boot.store, note := none }] →
          s.dram.grant = some (.engine .boot s.boot.storeAddr (.write s.boot.store) true) → s.boot.store ≠ [] →
          Completes .dramGrant s fun t =>
            t.dram.cells = (writeBytes s s.boot.storeAddr s.boot.store).dram.cells ∧ t.regs = s.regs ∧ t.chains = s.chains
              ∧ (s.boot.crc ≠ e.crc → failed .sectionCheck t) ∧ (s.boot.crc = e.crc → goes t)))

/-- While the directory is read each byte is kept, and enters the CRC where it lies before the stored CRC. At the
second byte a mark of 0xFFFF ends the boot FAILED with NO-ROM, any other but 0x5242 with BAD-DIRECTORY; at the sixth a
version other than 1 or a count outside 1 to 8 with BAD-DIRECTORY; at the last a CRC that differs, a size code outside
1 to 3 or a refresh value outside 8 to 31 with BAD-DIRECTORY: HOST-RESET as it was, the FAULT output active, the
geometry as it was. Otherwise, in that event, the installed size is 1, 2 or 4 MiB and the refresh interval the value,
the entries are kept as read, and section 0 has its entry checked: its read begins, or the boot ends FAILED with
SECTION-RANGE. The refresh timer restarts, with the interval in force before; the new one takes effect at its next
expiry. -/
def Obligations.RomByteDirectory : Prop :=
  (∀ (s : State) (b : Byte), s.boot.state = .readingDirectory → s.boot.reading = true →
      s.boot.directory.length + 1 < 6 → s.boot.directory.length ≠ 1 →
      exec (.romByte b) s = .next { s with boot :=
        { s.boot with directory := s.boot.directory ++ [b], romAddr := s.boot.romAddr + 1, crc := crcByte s.boot.crc b } })
    ∧ (∀ (s : State) (a b : Byte), s.boot.state = .readingDirectory → s.boot.reading = true → s.boot.directory = [a] →
        Completes (.romByte b) s fun t =>
          (a = 0xFF#8 ∧ b = 0xFF#8 → t.boot.state = .failed ∧ t.boot.result = .failure .noRom)
            ∧ (a = 0x52#8 ∧ b = 0x42#8 → t.boot.state = .readingDirectory ∧ t.boot.result = s.boot.result
                ∧ t.boot.directory = [a, b])
            ∧ (¬ (a = 0xFF#8 ∧ b = 0xFF#8) → ¬ (a = 0x52#8 ∧ b = 0x42#8) →
                t.boot.state = .failed ∧ t.boot.result = .failure .badDirectory)
            ∧ (t.boot.state = .failed → t.boot.faultOut = true ∧ t.boot.reading = false)
            ∧ t.boot.hostReset = s.boot.hostReset ∧ keptMemory s t ∧ t.regs = s.regs ∧ t.chains = s.chains)
    ∧ ∀ (s : State) (b : Byte), s.boot.state = .readingDirectory → s.boot.reading = true →
    (let d := s.boot.directory ++ [b]
     let c := field d 3 1
     let keptByte := { s.boot with directory := d, romAddr := s.boot.romAddr + 1 }
     let failed := fun (k : BootFailure) (t : State) => t.boot.state = .failed ∧ t.boot.result = .failure k
       ∧ t.boot.faultOut = true ∧ t.boot.reading = false ∧ t.boot.hostReset = s.boot.hostReset
       ∧ t.dram.cells = s.dram.cells ∧ t.regs = s.regs ∧ t.chains = s.chains
     (d.length = 6 →
        (field d 2 1 = 1 → 1 ≤ c → c ≤ 8 →
            exec (.romByte b) s = .next { s with boot := { keptByte with crc := crcByte s.boot.crc b } })
          ∧ (field d 2 1 ≠ 1 ∨ c = 0 ∨ 8 < c → Completes (.romByte b) s fun t => failed .badDirectory t ∧ keptMemory s t))
      ∧ (6 < d.length → d.length < 8 + 12 * c → exec (.romByte b) s = .next { s with boot :=
          { keptByte with crc := if d.length ≤ 6 + 12 * c then crcByte s.boot.crc b else s.boot.crc } })
      ∧ (1 ≤ c → c ≤ 8 → d.length = 8 + 12 * c →
          (let refresh := field d 5 1
           let size := 524288 * 2 ^ field d 4 1
           let good := s.boot.crc = BitVec.ofNat 16 (field d (6 + 12 * c) 2) ∧ 1 ≤ field d 4 1 ∧ field d 4 1 ≤ 3
             ∧ 8 ≤ refresh ∧ refresh ≤ 31
           let kind := field d 6 1
           let rom := field d 7 3
           let length := field d 10 3
           let dest := field d 13 3
           let inRange := 1 ≤ kind ∧ kind ≤ 5 ∧ 1 ≤ length ∧ length ≤ 1048576 ∧ rom + length ≤ 0x1000000
             ∧ (kind = 1 → dest + length ≤ size)
           (¬ good → Completes (.romByte b) s fun t => failed .badDirectory t ∧ keptMemory s t)
            ∧ (good → Completes (.romByte b) s fun t =>
                t.dram.installed = size ∧ t.dram.refreshInterval = refresh ∧ t.dram.refreshTimer = s.dram.refreshInterval
                  ∧ t.dram.cells = s.dram.cells ∧ t.boot.entries.length = c
                  ∧ (∀ i, i < c → t.boot.entries[i]? = some
                      { kind := field d (6 + 12 * i) 1, rom := field d (7 + 12 * i) 3, length := field d (10 + 12 * i) 3
                        dest := field d (13 + 12 * i) 3, crc := BitVec.ofNat 16 (field d (16 + 12 * i) 2) })
                  ∧ t.boot.index = 0 ∧ t.boot.loaded = 0
                  ∧ (inRange → t.boot.state = .loading ∧ t.boot.reading = true ∧ t.boot.romAddr = rom ∧ t.boot.got = 0
                      ∧ t.boot.crc = 0xFFFF#16 ∧ t.boot.hostReset = s.boot.hostReset)
                  ∧ (¬ inRange → failed .sectionRange t)))))

/-- After a failure of k pulses, an edge of the FAULT output ends a pulse or begins one: pulse ends are followed by
150 ms dark, but after the k-th by the rest of the 2 s period, and each begin by 150 ms active. Nothing else changes.
An edge whose time has not come changes nothing, which is the model's choice for an event that does not arise (log
entry 7). -/
def Obligations.BlinkEdges : Prop :=
  (∀ (s : State) (k : BootFailure), s.boot.result = .failure k → s.boot.blinkTimer = some 0 →
      Completes .blinkTimerExpiry s fun t =>
        (s.boot.faultOut = true → t = { s with boot :=
            { s.boot with
              faultOut := false, blinkEdge := s.boot.blinkEdge + 1
              blinkTimer := some (if s.boot.blinkEdge + 1 < k.pulses then 150000 else 2150000 - 300000 * k.pulses) } })
          ∧ (s.boot.faultOut = false → t = { s with boot :=
              { s.boot with
                faultOut := true, blinkEdge := if k.pulses ≤ s.boot.blinkEdge then 0 else s.boot.blinkEdge
                blinkTimer := some 150000 } }))
    ∧ (∀ s : State, s.boot.blinkTimer ≠ some 0 → exec .blinkTimerExpiry s = .next s)

/-- The CRC of a run of bytes starts at 0xFFFF, and each byte enters it bit by bit, most significant first: the
register is shifted left, and XORed with 0x1021 if the bit shifted out differs from the byte's bit. The CRC of
"123456789" is 0x29B1 and that of an empty run 0xFFFF. -/
def Obligations.CrcIsTheBitwiseOne : Prop :=
  (let bit := fun (r : BitVec 16) (x : Bool) => if (r.getLsbD 15).xor x then (r <<< 1) ^^^ 0x1021#16 else r <<< 1
   (∀ (l : List Byte) (b : Byte), crcOf (l ++ [b])
      = bit (bit (bit (bit (bit (bit (bit (bit (crcOf l) (b.getLsbD 7)) (b.getLsbD 6)) (b.getLsbD 5)) (b.getLsbD 4))
          (b.getLsbD 3)) (b.getLsbD 2)) (b.getLsbD 1)) (b.getLsbD 0))
    ∧ crcOf [] = 0xFFFF#16 ∧ crcOf [0x31, 0x32, 0x33, 0x34, 0x35, 0x36, 0x37, 0x38, 0x39] = 0x29B1#16)

/-- Written while the host is free: NONE and the code that names no command load the wake mask and do nothing else;
CANCEL also makes the slot NONE; GO-ACTIVE makes the slot NONE and returns the part from DOZE to ACTIVE with the idle
timer at 0. -/
def Obligations.PwrctlPlainCommands : Prop :=
  ∀ (s : State) (m : BitVec 5), hostFree s →
    (let t := { s with regs := { s.regs with wakeMask := m }, bus := writtenBus }
     exec (.none m) s = .next t ∧ exec (.noCommand m) s = .next t
      ∧ exec (.cancel m) s = .next { t with power := { s.power with slot := .none } }
      ∧ exec (.goActive m) s = .next { t with power :=
          if s.power.state = .doze then { s.power with slot := .none, state := .active, idleTimer := 0 }
          else { s.power with slot := .none } })

/-- In ACTIVE the slot becomes DOZE, and with quiet DOZE is entered in the same event: state DOZE, slot NONE, idle
timer 0, POWER raised. In DOZE the slot becomes NONE and the part stays in DOZE. Only the wake mask, the host bus,
NOTES and the power unit change. -/
def Obligations.GoDozeActs : Prop :=
  ∀ (s : State) (m : BitVec 5), hostFree s →
    (let t := { s with regs := { s.regs with wakeMask := m }, bus := writtenBus }
     (s.power.state = .doze → exec (.goDoze m) s = .next { t with power := { s.power with slot := .none } })
      ∧ (s.power.state = .active → quiet s = false →
          exec (.goDoze m) s = .next { t with power := { s.power with slot := .doze, idleTimer := 0 } })
      ∧ (s.power.state = .active → quiet s = true →
          exec (.goDoze m) s = .next { t with
            regs := { t.regs with notes := s.regs.notes ||| 0x100#10 }
            power := { s.power with state := .doze, slot := .none, idleTimer := 0 } }))

/-- Without idle-for-sleep the slot becomes SLEEP and the part stays as it is. With it, and no request or grant left,
entry runs to its end: SLEEP, slot NONE, DRAM refreshed and in self-refresh with no byte changed, the wake timer
loaded with wake-after × 32768 periods if TIMER is in the mask and wake-after is above 0, a running link timer at its
full 525 periods. That the entry runs to its end in this one event where nothing is left to grant is the model's
choice (log entry 20; file 95), the spec giving it as six steps. -/
def Obligations.GoSleepActs : Prop :=
  ∀ (s : State) (m : BitVec 5), hostFree s →
    (idleForSleep s = false → Completes (.goSleep m) s fun t =>
        t.power = { s.power with slot := .sleep, idleTimer := t.power.idleTimer } ∧ t.regs = { s.regs with wakeMask := m }
          ∧ keptMemory s t ∧ t.dram = s.dram ∧ t.chains = s.chains ∧ keptEngines s t)
      ∧ (idleForSleep s = true → drained s = true → Completes (.goSleep m) s fun t =>
          t.power.state = .sleep ∧ t.power.slot = .none ∧ t.dram.selfRefresh = true ∧ t.dram.refreshOwed = 0
            ∧ t.dram.refreshRow = s.dram.refreshRow ∧ keptMemory s t
            ∧ t.power.wakeTimer = (if m.getLsbD 4 ∧ 0 < s.power.wakeAfter then some (s.power.wakeAfter * 32768) else none)
            ∧ t.modem.linkTimer = s.modem.linkTimer.map (fun _ => 525)
            ∧ t.regs = { s.regs with wakeMask := m } ∧ t.chains = s.chains ∧ t.store = s.store ∧ t.scan = s.scan
            ∧ t.print = s.print ∧ t.motion.d = s.motion.d ∧ t.motion.p = s.motion.p)

/-- With the host free, the engine STOPPED, no power request armed, the control area inside the DRAM, and the setup
block in range (16 to 512 bands, a pool base that is a multiple of 4, the pool inside the DRAM and outside the control
area, a low-water mark of at most B), START makes the engine RUNNING with NOTES and AREA as they were and the wake
mask loaded; the pool is built whole with room 16 × B; every chain is EMPTY with cursor 0; both totals are 0; the
copies are the block's fields, a debounce, ack limit or fill limit of 0 taken as 1; CURSOR and CHAIN STATE of all six
anchors read 0 and EMPTY, FIRST stays, the status block reads RUNNING with fault code NONE; and every byte outside the
anchors, the status block, the page table and the B band entries is as before. That its writes land in its own step is
the model's choice (log entry 9; file 95). That bits the tables do not name are written 0 is the model's choice (log
entry 65). -/
def Obligations.StartAccepted : Prop :=
  ∀ (s : State) (m : BitVec 5), hostFree s → s.regs.engine = .stopped → s.power.slot = .none →
    areaBase s + 4096 ≤ s.dram.installed → s.dram.installed ≤ s.dram.fitted → Memory.wf s = true →
    (let base := areaBase s
     let f := fun o n => field (readBytes s base 64) o n
     let pool := f 0 4 % 16777216
     let bands := f 4 2
     16 ≤ bands → bands ≤ 512 → pool % 4 = 0 → pool + 3456 * bands ≤ s.dram.installed →
      (pool + 3456 * bands ≤ base ∨ base + 4096 ≤ pool) → f 6 2 ≤ bands →
      Completes (.start m) s fun t =>
        t.regs = { s.regs with wakeMask := m, engine := .running }
          ∧ t.store = PageStore.built pool bands (f 6 2) ∧ t.store.room = 16 * bands
          ∧ t.chains = Chains.cold ∧ t.print.overTotal = 0 ∧ t.modem.fillTotal = 0
          ∧ t.scan.bandLimit = f 8 1 ∧ t.motion.debounceMs = max 1 (f 9 1)
          ∧ t.motion.noteMask = BitVec.ofNat 6 (f 10 1) ∧ t.modem.ackLimit = max 1 (f 11 1)
          ∧ t.modem.fillLimit = max 1 (f 14 2) ∧ t.modem.holdLimitMs = f 16 2
          ∧ t.power.idleSeconds = f 12 2 ∧ t.power.wakeAfter = f 20 4 % 16777216
          ∧ (∀ c, readBytes t (base + anchorOffset c + 4) 5 = [0, 0, 0, 0, 0]
              ∧ readBytes t (base + anchorOffset c) 4 = readBytes s (base + anchorOffset c) 4)
          ∧ readBytes t (base + 160) 2 = [1, 0]
          ∧ (∀ a, (a < base + 64 ∨ base + 544 + 4 * bands ≤ a) → readByte t a = readByte s a))

/-- With the host free and no power request armed: a control area beyond the DRAM raises FAULT and writes no DRAM; a
setup block out of range (a band count outside 16 to 512, a pool base that is no multiple of 4, a pool beyond the DRAM
or over the control area, a low-water mark above B) writes START-REFUSED to the last fault code field, that byte
alone, and raises FAULT; the engine stays STOPPED and the chains and pool stay. While RUNNING, or during an engine
reset, START only loads the wake mask: that it does not return the part from DOZE is the model's choice (log entry
15), and so is that the write lands in the step (log entry 9). -/
def Obligations.StartRefusedOrIgnored : Prop :=
  ∀ (s : State) (m : BitVec 5), hostFree s →
    (s.regs.engine ≠ .stopped →
        exec (.start m) s = .next { s with regs := { s.regs with wakeMask := m }, bus := writtenBus })
      ∧ (s.regs.engine = .stopped → s.power.slot = .none → s.dram.installed < areaBase s + 4096 →
          Completes (.start m) s fun t =>
            t.regs = { s.regs with wakeMask := m, notes := s.regs.notes ||| 0x200#10 } ∧ keptMemory s t
              ∧ t.chains = s.chains ∧ keptEngines s t)
      ∧ (let base := areaBase s
         let f := fun o n => field (readBytes s base 64) o n
         let pool := f 0 4 % 16777216
         let bands := f 4 2
         s.regs.engine = .stopped → s.power.slot = .none → base + 4096 ≤ s.dram.installed →
          s.dram.installed ≤ s.dram.fitted →
          (bands < 16 ∨ 512 < bands ∨ pool % 4 ≠ 0 ∨ s.dram.installed < pool + 3456 * bands
            ∨ (base < pool + 3456 * bands ∧ pool < base + 4096) ∨ bands < f 6 2) →
          Completes (.start m) s fun t =>
            t.regs = { s.regs with wakeMask := m, notes := s.regs.notes ||| 0x200#10 }
              ∧ t.dram.cells = cellsWrite s.dram.cells (base + 161) 7 ∧ t.chains = s.chains ∧ keptEngines s t)

/-- With the host free, the engine RUNNING and no grant in progress, ENGINE-RESET makes both channels OFF with
position 0 and owner NONE, the lamp and supply OFF, each posted where it was not, the history lines white, drops the
pool and room but for the copies of pool base, B and low-water mark, makes the slot NONE, returns the part from DOZE,
makes an UP link abort with count 0 and a DOWN one IDLE with mode code 0; each TAKEN record is ending as CUT, and its
end's last writes are REASON ENGINE-RESET and STATE CUT, one whose outcome was handed over included, with PARKED for
its anchor behind them, the chains in chain order; no byte of DRAM is written in the event; AREA, NOTES and NOTEMASK
are kept; with no record left that its engine has not acted on, phase, table and last step of the channels are kept;
the engine is in its reset until STOPPED is written. That a record just handed over is acted on first, that a STATE
write not completed is replaced and that posts asked for before are still written are the model's choices (log entries
11, 19, 46). That the upper byte of CURSOR is written 0 is the model's choice (log entry 64). -/
def Obligations.EngineResetStopsEngines : Prop :=
  ∀ (s : State) (m : BitVec 5), hostFree s → s.regs.engine = .running → s.dram.grant = none →
    (let ends := fun (c : ChainId) (r : Taken) =>
       [{ tag := Tag.reason c, addr := r.addr + 7, data := XferData.write [6], note := none },
        { tag := .state c, addr := r.addr + 6, data := .write [4], note := none },
        areaPost s (68 + 16 * chainIndex c) (be32 (s.chain c).cursor ++ [2]) none]
     Completes (.engineReset m) s fun t =>
      t.regs = { s.regs with engine := .resetting, wakeMask := m }
        ∧ (∀ c, (t.channel c).state = .off ∧ (t.channel c).position = 0 ∧ (t.channel c).owner = .none
            ∧ (t.channel c).holdTimer = none)
        ∧ ((∀ e r, (s.chain e).taken = some r → r.stage ≠ .handed) → ∀ c, (t.channel c).phase = (s.channel c).phase
            ∧ (t.channel c).table = (s.channel c).table ∧ (t.channel c).lastStep = (s.channel c).lastStep)
        ∧ t.scan.lamp = .off ∧ (s.scan.lamp ≠ .off → areaPost s 169 [0] none ∈ t.dram.chain)
        ∧ t.print.supply = .off ∧ (s.print.supply ≠ .off → areaPost s 170 [0] none ∈ t.dram.chain) ∧ t.print.h1 = Line.white ∧ t.print.h2 = Line.white
        ∧ t.store = { PageStore.cold with
            poolBase := s.store.poolBase, bandCount := s.store.bandCount, lowMark := s.store.lowMark }
        ∧ t.power.slot = .none ∧ t.power.state = .active
        ∧ (s.modem.linkUp = true → t.modem.send = .aborting 0)
        ∧ (s.modem.linkUp = false → t.modem.send = .idle ∧ t.modem.mode = 0)
        ∧ (∀ c r, (s.chain c).taken = some r → ∃ park, (t.chain c).taken = some { r with stage := .ending .cut park }
            ∧ ∃ before after, t.dram.chain = before ++ ends c r ++ after)
        ∧ (∀ c e r q, (s.chain c).taken = some r → (s.chain e).taken = some q → chainIndex c < chainIndex e →
            ∃ before between after, t.dram.chain = before ++ ends c r ++ between ++ ends e q ++ after)
        ∧ keptMemory s t)

/-- During an engine reset, with the write of STOPPED at the head of the CHAIN requester, no power request armed and
no sleep entry in progress, its completion writes that byte, makes the engine STOPPED and discards the chain states,
cursors and cut-pending; a receive hold ends; NOTES, NOTEMASK, AREA, every other byte of DRAM, the units and the
requests that wait are as before. -/
def Obligations.EngineResetCompletes : Prop :=
  ∀ (s : State) (addr : Nat) (rest : List Xfer), s.regs.engine = .resetting → s.power.slot = .none →
    s.power.state ≠ .enteringSleep →
    lastWrite .chain .stopped addr [0] rest s →
    Completes .engineResetComplete s fun t =>
      t.regs = { s.regs with engine := .stopped } ∧ t.chains = Chains.cold
        ∧ t.dram.cells = (writeBytes s addr [0]).dram.cells ∧ t.dram.fitted = s.dram.fitted
        ∧ t.dram.installed = s.dram.installed ∧ t.dram.chain = rest ∧ t.store = s.store ∧ t.motion = s.motion
        ∧ t.scan = s.scan ∧ t.print = s.print ∧ t.modem = { s.modem with holdActive := false, holdTimer := none }
        ∧ t.bus = s.bus

/-- With the host free, the engine RUNNING and nothing waiting elsewhere, a follow bit makes an EMPTY, PARKED or
HALTED chain BUSY with its link read asked for (FIRST from EMPTY and from HALTED with cursor 0, else the cursor
record's LINK) and leaves a BUSY chain and every chain whose bit is 0 as they are; registers, DRAM and engines stay as
they are. -/
def Obligations.FollowNudgeActs : Prop :=
  ∀ (s : State) (w : Half), hostFree s → calm s → s.regs.engine = .running → cutBits w = 0 →
    Completes (.followNudge w) s fun t =>
      (∀ c, w.getLsbD (chainIndex c) = true →
          (∀ o addr, ((s.chain c).state = .empty ∧ o = Origin.fromEmpty ∧ addr = areaBase s + 64 + 16 * chainIndex c)
              ∨ ((s.chain c).state = .parked ∧ o = .fromParked ∧ addr = (s.chain c).cursor)
              ∨ ((s.chain c).state = .halted ∧ o = .fromHalted
                  ∧ addr = (if (s.chain c).cursor = 0 then areaBase s + 64 + 16 * chainIndex c else (s.chain c).cursor)) →
            t.chain c = { s.chain c with state := .busy, follow := .link o }
              ∧ { tag := .link c, addr := addr, data := .read 4 [], note := none } ∈ t.dram.chain)
          ∧ ((s.chain c).state = .busy → t.chain c = s.chain c))
        ∧ (∀ c, w.getLsbD (chainIndex c) = false → t.chain c = s.chain c)
        ∧ keptMemory s t ∧ t.bus = writtenBus ∧ t.regs = s.regs ∧ keptPower s t ∧ keptEngines s t

/-- With the host free, whatever the engine state and the records in work, a NUDGE write of either command makes the
slot NONE, restarts the idle timer, returns the part from DOZE, raises POWER exactly if the slot held DOZE or SLEEP,
and changes nothing else of the registers and the power unit. With the engine STOPPED and no record in the scan, print
and motion units it changes nothing else but the host bus. -/
def Obligations.NudgeClearsRequest : Prop :=
  ∀ (s : State) (w : Half) (i : Instr), i = .followNudge w ∨ i = .cut w → hostFree s →
    (let notes := if s.power.slot = .none then s.regs.notes else s.regs.notes ||| 0x100#10
     let power := { s.power with
       slot := .none, idleTimer := 0, state := if s.power.state = .doze then .active else s.power.state }
     (Completes i s fun t => t.regs = { s.regs with notes := notes } ∧ t.power = power ∧ t.bus = writtenBus)
      ∧ (s.regs.engine = .stopped → s.scan.work = none → s.print.work = none → s.motion.jobD = none →
          s.motion.jobP = none → s.store.unposted = none →
          exec i s = .next { s with bus := writtenBus, regs := { s.regs with notes := notes }, power := power }))

/-- With the host free, the engine RUNNING and nothing waiting elsewhere, a NUDGE write of one cut bit has no effect
on a chain without a TAKEN record whose outcome is still open, nor on one whose cut is pending. A HEAT TABLE LOAD just
handed over has ended as it would, DONE with the table replaced or FAILED BAD-TABLE, and the chain is not cut; a
CONDITION WAIT just handed over that does not match begins and ends CUT: that a handed record acts before the cut is
the model's reading of R116 and R124 (log entry 19). In work, a CONDITION WAIT ends CUT with CUT-BY-HOST, the latest
code and the whole ms waited (log entry 12) as its results; a SEND BLOCK does, with its count, the unit ABORTING with
count 0 and the run closed; a RECEIVE BUFFER does, or with a byte in the latch keeps its outcome for the write's
completion; with the latch empty it ends at once though the handshake is ACKED (log entry 53). The idle timer
restarts. Nothing else changes. That result fields are written by rising offset, the result word last, is the model's
choice (log entry 59). That bits the tables do not name are written 0 is the model's choice (log entry 65). So is the
fill count of 0 after an abort (log entry 67). -/
def Obligations.CutActs : Prop :=
  ∀ (s : State) (c : ChainId), hostFree s → calm s → s.regs.engine = .running →
    (let w := 1#16 <<< (8 + chainIndex c)
     let u := { s with bus := writtenBus, power := { s.power with idleTimer := 0 } }
     let cutting := fun (r : Taken) => (s.chain c).taken = some r ∧ r.stage = .working ∧ (s.chain c).cutPending = false
     (inWork s c = none → exec (.cut w) s = .next u)
      ∧ ((s.chain c).cutPending = true → (∀ r, (s.chain c).taken = some r → r.stage ≠ .handed) → exec (.cut w) s = .next u)
      ∧ (∀ r, c = .print → justHanded .print .heatTableLoad r s →
          (heatTableOf r.body = none → exec (.cut w) s = .next (ending c r .failed .badTable [(8, [0, 0, 0, 0])] u))
            ∧ (∀ table, heatTableOf r.body = some table → exec (.cut w) s
                = .next (ending c r .done .none [(8, [0, 0, 0, 0])] { u with print := { s.print with heat := table } })))
      ∧ (∀ r m v ms, c = .send → justHanded .send .conditionWait r s → conditionRequest r.body = some (m, v, ms) →
          s.modem.linkUp = true → s.modem.code &&& m ≠ v → exec (.cut w) s
            = .next (ending c r .cut .cutByHost [(16, be8 s.modem.code.toNat), (8, [0, 0, 0, 0])]
                (withChain c { s.chain c with cutPending := true }
                  { u with modem := { s.modem with sendWork := none, waitTimer := none } })))
      ∧ (∀ r m v t0 ms, c = .send → cutting r → s.modem.sendWork = some (.wait m v t0 ms) →
          exec (.cut w) s = .next (ending c r .cut .cutByHost
            [(16, be8 s.modem.code.toNat), (8, be32 (min ((s.now - t0) / 1000) 4294967295))]
            (withChain c { s.chain c with cutPending := true }
              { u with modem := { s.modem with sendWork := none, waitTimer := none } })))
      ∧ (∀ r j, c = .send → cutting r → s.modem.sendWork = some (.block j) → Completes (.cut w) s fun t =>
          t.modem = { s.modem with send := .aborting 0, waited := 0, runOpen := false, underrun := false, fillCount := 0
                                   store := [], fetching := 0, sendWork := none, waitTimer := none }
            ∧ t.chain c = { s.chain c with cutPending := true, taken := some { r with stage := .ending .cut true } }
            ∧ t.dram.chain = s.dram.chain ++ endXfers c r.addr .cut .cutByHost [(22, be16 j.sent), (8, be32 j.sent)]
            ∧ keptMemory s t ∧ t.regs = s.regs ∧ t.store = s.store ∧ t.motion = s.motion ∧ t.scan = s.scan
            ∧ t.print = s.print)
      ∧ (∀ r j, c = .receive → cutting r → s.modem.receiveWork = some j →
          (s.modem.latch = none → exec (.cut w) s = .next (ending c r .cut .cutByHost [(18, [0]), (8, be32 j.count)]
              (withChain c { s.chain c with cutPending := true }
                { u with modem := { s.modem with receiveWork := none } })))
            ∧ (s.modem.latch ≠ none → j.outcome = none → exec (.cut w) s
                = .next (withChain c { s.chain c with cutPending := true }
                    { u with modem := { s.modem with
                      receiveWork := some { j with outcome := some (.cut, .cutByHost) } } }))))

/-- With the host free and the engine RUNNING: a cut of a MOVE, or of a MOVE TO EDGE before its edge, whose channel
has issued step j with ramp index x above 0 makes the channel STOPPING with the planned count j + x + 1; cut-pending
is set and the record goes on. A SCAN PAGE in WAIT-OWNER ends CUT at once, channel and lamp untouched; in FEED or
LEAD-IN, and with end cause CUT in CAPTURE or TRAIL, it makes the stop request and runs down to end CUT; in PAUSED it
goes to CLOSING (log entry 51). A PRINT PAGE from LINES in SUPPLY-SETTLE, LINE-WAIT or HEAT-WAIT, or between lines,
ends CUT at once, channel P given up; during a line only cut-pending is set. Registers, other chains and DRAM stay.
That result fields are written by rising offset, the result word last, is the model's choice (log entry 59). -/
def Obligations.MoveCutStops : Prop :=
  (∀ (s : State) (c : ChannelId) (r : Taken) (q : MotionRequest) (ph : MotionPhase) (pr : Profile), hostFree s →
    s.regs.engine = .running → s.power.state = .active → s.power.slot = .none → s.store.unposted = none →
    s.scan.work = none → s.print.work = none → (∀ e, e ≠ c → s.job e = none) →
    s.job c = some { request := q, phase := ph } →
    ((∃ n fwd top a, q = .move n fwd top a ∧ ph = .running) ∨ (∃ e, q = .edge e ∧ ph = .search)) →
    (s.chain (motionChain c)).taken = some r → r.stage = .working → (s.chain (motionChain c)).cutPending = false →
    (s.channel c).owner = .chain → (s.channel c).state = .stepping → (s.channel c).profile = some pr →
    1 ≤ pr.issued → 0 < (s.channel c).ramp →
    Completes (.cut (1#16 <<< (8 + chainIndex (motionChain c)))) s fun t =>
      t.channel c = { s.channel c with
          state := .stopping, profile := some { pr with planned := pr.issued + (s.channel c).ramp + 1, cuttable := false } }
        ∧ t.chain (motionChain c) = { s.chain (motionChain c) with cutPending := true }
        ∧ (∀ e, e ≠ motionChain c → t.chain e = s.chain e) ∧ (∀ e, e ≠ c → t.channel e = s.channel e)
        ∧ t.job c = s.job c ∧ keptMemory s t ∧ t.regs = s.regs ∧ keptPower s t ∧ t.store = s.store ∧ t.scan = s.scan
        ∧ t.print = s.print ∧ t.modem = s.modem)
    ∧ (∀ (s : State) (r : Taken) (j : ScanJob), hostFree s → s.regs.engine = .running → atRest s → s.print.work = none →
        s.motion.jobD = none → s.motion.jobP = none → s.scan.work = some (.page j) →
        (s.chain .scan).taken = some r → r.stage = .working → (s.chain .scan).cutPending = false →
        (let kept := fun (t : State) => keptMemory s t ∧ t.regs = s.regs ∧ t.print = s.print ∧ t.modem = s.modem
           ∧ t.store = s.store ∧ t.motion.p = s.motion.p ∧ (∀ e, e ≠ .scan → t.chain e = s.chain e)
         let goesOn := fun (t : State) => t.chain .scan = { s.chain .scan with cutPending := true } ∧ kept t
         let ended := some (RecordOutcome.cut, Reason.cutByHost)
         (j.phase = .waitOwner → Completes (.cut 0x100) s fun t =>
            t.chain .scan = { s.chain .scan with cutPending := true, taken := some { r with stage := .ending .cut true } }
              ∧ t.dram.chain = s.dram.chain ++ endXfers .scan r.addr .cut .cutByHost j.results
              ∧ t.scan = { s.scan with work := none } ∧ t.motion = s.motion ∧ kept t)
          ∧ (∀ pr, j.phase = .feed ∨ j.phase = .leadIn ∨ j.phase = .capture ∨ j.phase = .trail →
              s.motion.d.state = .stepping → s.motion.d.profile = some pr → 1 ≤ pr.issued → 0 < s.motion.d.ramp →
              Completes (.cut 0x100) s fun t =>
                t.scan = { s.scan with
                    bandWait := none
                    work := some (.page { j with
                      phase := .runDown, captureStopped := true, outcome := ended
                      cause := if j.phase = .capture ∨ j.phase = .trail then .cut else j.cause }) }
                  ∧ t.motion.d = { s.motion.d with
                      state := .stopping
                      profile := some { pr with planned := pr.issued + s.motion.d.ramp + 1, cuttable := false } }
                  ∧ goesOn t)
          ∧ (j.phase = .paused → s.motion.d.state = .holding → s.scan.buffers ≠ [] → Completes (.cut 0x100) s fun t =>
              t.scan = { s.scan with
                  bandWait := none
                  work := some (.page { j with phase := .closing, captureStopped := true, outcome := ended, cause := .cut }) }
                ∧ t.motion.d = s.motion.d ∧ goesOn t)))
    ∧ (∀ (s : State) (r : Taken) (j : PrintJob) (a p n : Nat), hostFree s → s.regs.engine = .running → plain s →
        s.scan.work = none → s.motion.jobD = none → s.motion.jobP = none → s.print.work = some j →
        j.request.source = .lines a p n → (s.chain .print).taken = some r → r.stage = .working →
        (s.chain .print).cutPending = false →
        (let kept := fun (t : State) => keptMemory s t ∧ t.regs = s.regs ∧ t.scan = s.scan ∧ t.modem = s.modem
           ∧ t.store = s.store ∧ t.motion.d = s.motion.d ∧ (∀ e, e ≠ .print → t.chain e = s.chain e)
         (j.phase = .supplySettle ∨ j.phase = .lineWait ∨ j.phase = .heatWait ∨ (j.phase = .printing ∧ j.lineActive = false) →
            Completes (.cut 0x200) s fun t =>
              t.chain .print = { s.chain .print with cutPending := true, taken := some { r with stage := .ending .cut true } }
                ∧ t.print.work = none ∧ t.motion.p.owner = .none ∧ t.motion.p.position = s.motion.p.position
                ∧ { tag := .result .print, addr := r.addr + 8, data := .write (be32 j.outputLines), note := none } ∈ t.dram.chain
                ∧ { tag := .reason .print, addr := r.addr + 7, data := .write [5], note := none } ∈ t.dram.chain
                ∧ { tag := .state .print, addr := r.addr + 6, data := .write [4], note := none } ∈ t.dram.chain ∧ kept t)
          ∧ (j.phase = .printing → j.lineActive = true → atRest s → Completes (.cut 0x200) s fun t =>
              t.chain .print = { s.chain .print with cutPending := true } ∧ t.print = s.print ∧ t.motion = s.motion
                ∧ kept t)))

/-- Written while the host is free: NOTES loses the bits written 1, NOTEMASK takes bits 9 to 0, AREA takes bits 9 to 0
while the engine is STOPPED and is left otherwise; only that register and the host bus change. The interrupt line is
asserted exactly when some note is pending whose bit in NOTEMASK is clear. -/
def Obligations.NoteRegisterWrites : Prop :=
  ∀ (s : State) (w : Half),
    (hostFree s →
      exec (.notesClear w) s = .next { s with
          bus := writtenBus, regs := { s.regs with notes := s.regs.notes &&& ~~~(w.setWidth 10) } }
        ∧ exec (.notemaskWrite w) s = .next { s with bus := writtenBus, regs := { s.regs with noteMask := w.setWidth 10 } }
        ∧ (s.regs.engine = .stopped →
            exec (.areaWrite w) s = .next { s with bus := writtenBus, regs := { s.regs with area := w.setWidth 10 } })
        ∧ (s.regs.engine ≠ .stopped → exec (.areaWrite w) s = .next { s with bus := writtenBus }))
      ∧ (interruptLine s = true ↔ ∃ i, i < 10 ∧ s.regs.notes.getLsbD i = true ∧ s.regs.noteMask.getLsbD i = false)

/-- With the host free and nothing waiting elsewhere: a page id above 15, or a write while the engine is not RUNNING,
has no effect; a page without KEEP stays as it is. A page with another hold loses KEEP and nothing else, and its entry
is posted. A page whose last hold is KEEP becomes EMPTY with its end cause kept, its bands become FREE, the free count
rises by their number, and the band entries, the page entry and the free count are posted in this order. Other pages,
DRAM, registers, chains and engines stay. The pool as START builds it is the free list 0 to B − 1; Allocate takes the
head and fails only on an empty list; Return appends at the tail; a lapse returns a page's bands in chain order; a
capture without a FILLING band allocates one and links it behind the chain, one with it takes its next slot, which
makes it FULL at 16. The band entries posted are those that the Returns change, the old tails among them, one that
changes more than once posted once, at its first place: the model's choice (log entry 24). That bits the tables do not
name are written 0 is the model's choice (log entry 65). -/
def Obligations.PagedropActs : Prop :=
  (∀ (s : State) (w : Half), hostFree s → calm s → s.store.pages.length = 16 →
    (let p := s.store.page w.toNat
     let bands := firstOf (s.store.settlePage w.toNat { p with keep := false }).2
     let pagePosted := fun (t : State) => areaPost s (288 + 16 * w.toNat) (pageEntry (t.store.page w.toNat)) none
     (s.regs.engine ≠ .running ∨ 16 ≤ w.toNat → exec (.pagedrop w) s = .next { s with bus := writtenBus })
      ∧ (s.regs.engine = .running → w.toNat < 16 → p.keep = false →
          exec (.pagedrop w) s = .next (rested { s with bus := writtenBus }))
      ∧ (s.regs.engine = .running → w.toNat < 16 → p.keep = true →
          Completes (.pagedrop w) s fun t =>
            (p.fill = true ∨ p.print = true →
                t.store.page w.toNat = { p with keep := false } ∧ t.store.bands = s.store.bands
                  ∧ t.store.count = s.store.count ∧ t.store.head = s.store.head ∧ t.store.tail = s.store.tail
                  ∧ t.dram.chain = s.dram.chain ++ [pagePosted t])
              ∧ (p.fill = false → p.print = false →
                t.store.page w.toNat = { state := .empty, fill := false, print := false, keep := false, lines := 0
                                         base := 0, first := none, last := none, count := 0, spl := 0, cause := p.cause }
                  ∧ (∀ b ∈ s.store.walk p.first p.count, (t.store.band b).state = .free)
                  ∧ t.store.count = s.store.count + (s.store.walk p.first p.count).length
                  ∧ (s.store.walk p.first p.count ≠ [] →
                      (∀ b ∈ s.store.walk p.first p.count, b ∈ bands) ∧ bands.Nodup
                        ∧ t.dram.chain = s.dram.chain
                            ++ bands.map (fun b => areaPost s (544 + 4 * b) (bandEntry (t.store.band b)) none)
                            ++ [pagePosted t, areaPost s 166 (be16 t.store.count) none]))
              ∧ (∀ j, j ≠ w.toNat → t.store.page j = s.store.page j)
              ∧ keptMemory s t ∧ t.bus = writtenBus ∧ t.regs = s.regs ∧ t.chains = s.chains ∧ keptPower s t
              ∧ t.motion = s.motion ∧ t.scan = s.scan ∧ t.print = s.print ∧ t.modem = s.modem)))
    ∧ (∀ pool bands mark, 0 < bands → freeList (PageStore.built pool bands mark) (List.range bands))
    ∧ (∀ st : PageStore, freeList st [] → st.allocate = none)
    ∧ (∀ (st : PageStore) (h : Nat) (l : List Nat), freeList st (h :: l) →
        ∃ u, st.allocate = some (h, u) ∧ freeList u l ∧ u.bands = st.bands ∧ u.pages = st.pages)
    ∧ (∀ (st : PageStore) (l : List Nat) (b : Nat), freeList st l → b ∉ l → b < st.bands.length →
        freeList (st.giveBack b) (l ++ [b]) ∧ (st.giveBack b).pages = st.pages
          ∧ ∀ x, x ≠ b → st.tail ≠ some x → (st.giveBack b).band x = st.band x)
    ∧ (∀ (st : PageStore) (i : Nat) (l c : List Nat), freeList st l → pageChain st i c → (∀ b ∈ c, b ∉ l) →
        i < st.pages.length →
        freeList (st.lapse i).1 (l ++ c) ∧ (st.lapse i).1.page i = Page.blank (st.page i).cause
          ∧ (∀ j, j ≠ i → (st.lapse i).1.page j = st.page j) ∧ ∀ x, x ∉ l → x ∉ c → (st.lapse i).1.band x = st.band x)
    ∧ (∀ (st : PageStore) (i : Nat) (h : Nat) (l c : List Nat), freeList st (h :: l) → pageChain st i c →
        (∀ b ∈ c, b ∉ h :: l) → i < st.pages.length → (∀ b ∈ c, (st.band b).state = .full) →
        ∃ a, st.assign i (st.page i) = some a ∧ a.band = h ∧ a.slot = 0 ∧ a.full = false ∧ freeList a.store l
          ∧ pageChain a.store i (c ++ [h]) ∧ a.store.band h = { state := .filling, page := i, lines := 1, next := none })
    ∧ (∀ (st : PageStore) (i b : Nat) (l c : List Nat), freeList st l → pageChain st i (c ++ [b]) →
        (∀ x ∈ c ++ [b], x ∉ l) → i < st.pages.length → (st.band b).state = .filling →
        ∃ a, st.assign i (st.page i) = some a ∧ a.band = b ∧ a.slot = (st.band b).lines ∧ freeList a.store l
          ∧ pageChain a.store i (c ++ [b]) ∧ (a.full = true ↔ (st.band b).lines = 15)
          ∧ a.store.band b = { st.band b with
              lines := (st.band b).lines + 1, state := if (st.band b).lines = 15 then .full else .filling })

/-- With the host free and an installed size of at most 4 MiB, a cycle ends with bus error exactly if it is a word
access at an odd address, an access at or above the installed size outside the seven registers, a write to IDENT or a
byte write to a register; by either command it then changes the host bus alone: result bus error, no data, no request,
snapshot store empty. That a bus error empties the snapshot store (log entry 36), and that a cycle named by the wrong
one of the two rows acts as the cycle it is (log entry 16), are the model's choices. -/
def Obligations.BusErrorCycles : Prop :=
  ∀ (s : State) (c : HostCycle) (i : Instr), i = .busError c ∨ i = .hostDramAccess c → hostFree s →
    s.dram.installed ≤ 4194304 →
    (let a := c.addr.toNat
     let error := (c.isWord = true ∧ a % 2 = 1)
       ∨ (s.dram.installed ≤ a ∧ (a < 0xFFFFF0 ∨ 0xFFFFFE ≤ a))
       ∨ (0xFFFFF0 ≤ a ∧ a < 0xFFFFF2 ∧ c.access ≠ .read)
       ∨ (0xFFFFF0 ≤ a ∧ a < 0xFFFFFE ∧ c.isWord = false ∧ c.access ≠ .read)
     (error → exec i s = .next { s with bus := { cycle := none, rate := 0, result := .busError, snapshot := none, follows := none } })
      ∧ (¬ error → Completes i s fun t => t.bus.result ≠ .busError))

/-- With the host free: a DRAM cycle that is no bus error and no following snapshot read (a read at the address after
the last snapshot read, in its 16-byte block and in the control area) is held, its result waiting, the snapshot store
empty, at the rate of the host clock, 12 MHz in ACTIVE and 1.5 MHz in DOZE, which a cycle held keeps in every power
state; a following snapshot read is answered from the store without a request. A word read of IDENT, AREA, NUDGE,
NOTES, NOTEMASK and PAGEDROP returns 0x0281, AREA, 0, NOTES, NOTEMASK and 0; one of PWRCTL returns its fields: DOZE,
the engine state, the armed request, the boot result (0xF for SKIPPED) and the wake mask. A byte read returns the
upper half at the even address and the lower half at the odd one. Nothing but the host bus changes. That the cycle is
decoded whatever row names it is the model's choice (log entry 16). -/
def Obligations.HostCycleTaken : Prop :=
  ∀ (s : State) (c : HostCycle), hostFree s → s.dram.installed ≤ 4194304 →
    (let a := c.addr.toNat
     let following := c.access = .read ∧ s.bus.follows = some a ∧ areaBase s ≤ a ∧ a < areaBase s + 4096
       ∧ ∃ bytes, s.bus.snapshot = some (a / 16 * 16, bytes)
     let rate := if s.power.state = .active then 12000 else 1500
     let answers := fun (v : Half) => exec (.hostDramAccess c) s = .next { s with
       bus := { cycle := none, rate := 0, result := .data v, snapshot := none, follows := none } }
     let holds := fun (r : Nat) (v : Half) =>
       (c.isWord = true → a = r → answers v) ∧ (c.isWord = false → a = r → answers (v >>> 8))
         ∧ (c.isWord = false → a = r + 1 → answers (v &&& 0xFF))
     (a < s.dram.installed → (c.isWord = false ∨ a % 2 = 0) → ¬ following →
        exec (.hostDramAccess c) s = .next { s with
          bus := { cycle := some c, rate := rate, result := .waiting, snapshot := none, follows := none } })
      ∧ hostClock s = rate ∧ (∀ (b : HostBus) (p : Power), b.cycle ≠ none → hostClock { s with bus := b, power := p } = b.rate)
      ∧ (∀ block bytes, a < s.dram.installed → (c.isWord = false ∨ a % 2 = 0) → c.access = .read →
          s.bus.snapshot = some (block, bytes) → s.bus.follows = some a → a / 16 * 16 = block →
          areaBase s ≤ a → a < areaBase s + 4096 →
          exec (.hostDramAccess c) s = .next { s with
            bus := { cycle := none, rate := s.bus.rate, snapshot := some (block, bytes), follows := some (a + if c.isWord then 2 else 1)
                     result := .data (BitVec.ofNat 16
                       (beNat ((bytes.drop (a - block)).take (if c.isWord then 2 else 1)))) } })
      ∧ (c.access = .read →
          holds 0xFFFFF0 0x0281 ∧ holds 0xFFFFF2 (s.regs.area.setWidth 16) ∧ holds 0xFFFFF4 0
            ∧ holds 0xFFFFF6 (s.regs.notes.setWidth 16) ∧ holds 0xFFFFF8 (s.regs.noteMask.setWidth 16)
            ∧ holds 0xFFFFFC 0
            ∧ ∀ v : Half, (v.getLsbD 0 = decide (s.power.state = .doze)) → (v.getLsbD 1 = decide (s.regs.engine ≠ .stopped)) →
                v.extractLsb' 2 2 = (match s.power.slot with | .none => 0#2 | .doze => 1#2 | .sleep => 2#2) →
                (∀ n, s.boot.result = .ok n → n ≤ 8 → v.extractLsb' 4 4 = BitVec.ofNat 4 n) →
                (s.boot.result = .skipped → v.extractLsb' 4 4 = 15#4) → v.extractLsb' 8 5 = s.regs.wakeMask →
                v.extractLsb' 13 3 = 0#3 → (s.boot.result = .skipped ∨ ∃ n, s.boot.result = .ok n ∧ n ≤ 8) →
                holds 0xFFFFFA v))

/-- With no grant in progress, the part ACTIVE and DRAM out of self-refresh: an owed refresh takes the grant and
leaves the history bit; otherwise, if host and engines both wait, the side that did not take the last grant of the
pair takes it, else the side that waits; an engine grant goes to the first waiting of BOOT, SCAN, PRINT, MODEM, CHAIN,
for the next burst of its first transfer; with no requester nothing is granted. In self-refresh no grant is given.
That the history bit is set when the grant is given (log entry 29) and that a burst is as long as R136 allows (log
entry 28) are the model's choices. -/
def Obligations.GrantChoice : Prop :=
  ∀ s : State, s.dram.grant = none → s.power.state = .active →
    (let first : Option (Requester × Xfer) :=
       [Requester.boot, .scan, .print, .modem, .chain].findSome? fun r => (s.dram.queue r).head?.map fun x => (r, x)
     let byHost := exec .dramGrant s = .next { s with dram := { s.dram with grant := some .host, hostTookLast := true } }
     let byEngine := fun p : Requester × Xfer => exec .dramGrant s = .next { s with
         dram := { s.dram with
           grant := some (.engine p.1 p.2.addr (p.2.burst (s.dram.installed / 1024)) true), hostTookLast := false } }
     (s.dram.selfRefresh = true → exec .dramGrant s = .next s)
      ∧ (s.dram.selfRefresh = false →
          (0 < s.dram.refreshOwed → exec .dramGrant s = .next { s with dram := { s.dram with grant := some .refresh } })
          ∧ (s.dram.refreshOwed = 0 → s.bus.cycle ≠ none → (first = none ∨ s.dram.hostTookLast = false) → byHost)
          ∧ (∀ p, s.dram.refreshOwed = 0 → first = some p → (s.bus.cycle = none ∨ s.dram.hostTookLast = true) → byEngine p)
          ∧ (s.dram.refreshOwed = 0 → s.bus.cycle = none → first = none → exec .dramGrant s = .next s)))

/-- Out of self-refresh the refresh timer at 0 adds one to the count owed and restarts, in step 2 of a sleep entry
too, where the refresh so owed waits (R150); in self-refresh, or with the timer above 0 (log entry 7), nothing
changes. With the part ACTIVE and DRAM out of self-refresh: an owed refresh grant completes with the row counter one
on, modulo 1024, and the count owed one less. A host grant, with no refresh owed and no engine waiting, writes the
word in big-endian order or the byte, or returns what the addressed bytes hold; a read inside the control area fills
the 16-byte snapshot of its aligned block. Reads stay inside the fitted DRAM here. Nothing else changes. The
completion of the grant of a transfer's last burst is that transfer's completion row, after which the next grant is
given and a drained sleep entry goes on; that the row may also stand for the grants before it is the model's choice
(log entry 8). -/
def Obligations.GrantCompletes : Prop :=
  (∀ s : State,
      (s.dram.refreshTimer = 0 → s.dram.selfRefresh = false → s.power.oscTimer = none →
          (s.power.state = .active ∨ s.power.state = .doze ∨ (s.power.state = .enteringSleep ∧ s.bus.cycle ≠ none) →
            exec .refreshTimerExpiry s = .next { s with
              dram := { s.dram with refreshOwed := s.dram.refreshOwed + 1, refreshTimer := s.dram.refreshInterval } })
          ∧ (s.power.state = .enteringSleep → s.bus.cycle = none → exec .refreshTimerExpiry s = .next { s with
              dram := { s.dram with
                refreshOwed := s.dram.refreshOwed + 1, refreshHeld := s.dram.refreshHeld + 1
                refreshTimer := s.dram.refreshInterval } }))
        ∧ (s.dram.refreshTimer ≠ 0 ∨ s.dram.selfRefresh = true → exec .refreshTimerExpiry s = .next s))
    ∧ ∀ s : State, s.power.state = .active → s.dram.selfRefresh = false →
    (s.dram.grant = some .refresh → s.dram.refreshOwed = 1 → s.bus.cycle = none → firstEngine s.dram = none →
        exec .dramGrant s = .next { s with
          dram := { s.dram with grant := none, refreshRow := (s.dram.refreshRow + 1) % 1024, refreshOwed := 0 } })
      ∧ (∀ c, s.dram.grant = some .host → s.bus.cycle = some c → s.dram.refreshOwed = 0 → firstEngine s.dram = none →
          (let a := c.addr.toNat
           let width := if c.isWord then 2 else 1
           let area := areaBase s ≤ a ∧ a < areaBase s + 4096
           (∀ data, c.access = .write data →
              (let u := writeBytes s a (if c.isWord then be16 data.toNat else be8 data.toNat)
               exec .dramGrant s = .next { u with
                 bus := { s.bus with cycle := none, rate := 0, result := .written }, dram := { u.dram with grant := none } }))
            ∧ (c.access = .read → ¬ area → a + width ≤ s.dram.fitted →
                exec .dramGrant s = .next { s with
                  bus := { s.bus with cycle := none, rate := 0, result := .data (BitVec.ofNat 16 (beNat (readBytes s a width))) }
                  dram := { s.dram with grant := none } })
            ∧ (c.access = .read → area → a / 16 * 16 + 16 ≤ s.dram.fitted →
                (let block := readBytes s (a / 16 * 16) 16
                 exec .dramGrant s = .next { s with
                   bus := { cycle := none, rate := 0, snapshot := some (a / 16 * 16, block), follows := some (a + width)
                            result := .data (BitVec.ofNat 16 (beNat ((block.drop (a % 16)).take width))) }
                   dram := { s.dram with grant := none } }))))
      ∧ (∀ (r : Requester) (x : Xfer) (rest : List Xfer) (i : Instr), s.dram.hostTookLast = false →
          s.dram.queue r = x :: rest → x.left = (x.burst (s.dram.installed / 1024)).size →
          s.dram.grant = some (.engine r x.addr (x.burst (s.dram.installed / 1024)) true) →
          (∃ c, r = .chain ∧ ((x.tag = .link c ∧ i = .linkReadComplete c) ∨ (x.tag = .header c ∧ i = .headerReadComplete c)
              ∨ (x.tag = .body c ∧ i = .bodyReadComplete c) ∨ (x.tag = .taken c ∧ i = .takenWriteComplete c)
              ∨ (x.tag = .state c ∧ i = .stateWriteComplete c)))
            ∨ (r = .chain ∧ x.tag = .stopped ∧ i = .engineResetComplete)
            ∨ (r = .scan ∧ ((x.tag = .lineBuffer ∧ i = .lineBufferWriteComplete)
              ∨ (x.tag = .grayRow ∧ i = .grayRowWriteComplete)))
            ∨ (r = .modem ∧ ((x.tag = .sendFetch ∧ i = .sendStoreFetchComplete)
              ∨ (x.tag = .receive ∧ i = .receiveWriteComplete))) →
          ∃ t, exec i s = .next t ∧ exec .dramGrant s = .next (continueSleepEntry (giveGrant t)))

/-- Asking for a post changes neither DRAM nor NOTES. With the part ACTIVE and nothing else waiting or granted, the
completion of the grant of a post's last burst writes its bytes to DRAM, raises its note, if it has one, in the same
event, and takes the post from the queue; nothing else changes. That the note comes in the very event of the last
burst is the model's choice (log entry 10). -/
def Obligations.NoteFollowsItsWrite : Prop :=
  (∀ (s : State) (o : Nat) (bytes : List Byte) (n : Option Note),
      keptMemory s (post o bytes n s) ∧ (post o bytes n s).regs = s.regs)
    ∧ (∀ (s : State) (x : Xfer) (bytes : List Byte), s.power.state = .active → s.dram.selfRefresh = false →
        s.dram.refreshOwed = 0 → s.bus.cycle = none → x.tag = .post → x.data = .write bytes →
        s.dram.boot = [] → s.dram.scan = [] → s.dram.print = [] → s.dram.modem = [] → s.dram.chain = [x] →
        s.dram.grant = some (.engine .chain x.addr (.write bytes) true) →
        (let u := writeBytes s x.addr bytes
         exec .dramGrant s = .next { u with
           dram := { u.dram with chain := [], grant := none }
           regs := { s.regs with notes := match x.note with
             | none => s.regs.notes
             | some n => s.regs.notes ||| 1#10 <<< n.index } }))

/-- When a follow's link read completes, with the engine RUNNING and nothing waiting elsewhere: link 0 leaves the
chain as R114 gives for where the follow began, writing the anchor after an end and where a HALTED chain is left; a
link that is a multiple of 4 with 12 bytes in DRAM has its 12-byte header read; any other halts the chain, its anchor
and then BAD-LINK with FAULT are posted. The upper byte of the link is ignored. Nothing else changes. That the upper
byte of CURSOR is written 0 is the model's choice (log entry 64). -/
def Obligations.LinkReadActs : Prop :=
  ∀ (s : State) (c : ChainId) (o : Origin) (bytes : List Byte) (more : List Xfer), calm s → s.regs.engine = .running →
    (s.chain c).follow = .link o → lastRead .chain (.link c) bytes more s →
    (let link := beNat (bytes.take 4) % 16777216
     let ch := s.chain c
     let u := served .chain more s
     let anchor := fun (st : ChainState) => areaPost s (68 + 16 * chainIndex c) (be32 ch.cursor ++ be8 st.code) none
     let rest := fun (st : ChainState) => withChain c { ch with state := st, follow := .idle } u
     let answers := fun (t : State) => exec (.linkReadComplete c) s = .next (rested t)
     (link = 0 →
        (o = .fromEmpty → answers (rest .empty)) ∧ (o = .fromParked → answers (rest .parked))
          ∧ (o = .fromEnd → answers (asking [anchor .parked] (rest .parked)))
          ∧ (o = .fromHalted → ch.cursor = 0 → answers (asking [anchor .empty] (rest .empty)))
          ∧ (o = .fromHalted → ch.cursor ≠ 0 → answers (asking [anchor .parked] (rest .parked))))
      ∧ (link ≠ 0 → link % 4 = 0 → link + 11 < s.dram.installed →
          answers (asking [{ tag := .header c, addr := link, data := .read 12 [], note := none }]
            (withChain c { ch with follow := .header link } u)))
      ∧ (link ≠ 0 → (link % 4 ≠ 0 ∨ s.dram.installed ≤ link + 11) →
          answers (asking [anchor .halted, areaPost s 161 [1] (some .fault)] (rest .halted))))

/-- When the header read has finished, with the engine RUNNING and nothing waiting elsewhere: a STATE other than 0
halts the chain with BAD-STATE and FAULT; else the record is read on: an unknown KIND, a KIND of another chain or a
record beyond DRAM is to be TAKEN and rejected; a good KIND with a body has its body read, one without is to be TAKEN
at once. TAKEN is written to the record's STATE. Nothing else changes. That the first read of a SCAN TABLE LOAD takes
its four flag bytes alone is the model's choice (log entry 14). That the upper byte of CURSOR is written 0 is the
model's choice (log entry 64). -/
def Obligations.HeaderReadActs : Prop :=
  ∀ (s : State) (c : ChainId) (link : Nat) (bytes : List Byte) (more : List Xfer), calm s → s.regs.engine = .running →
    (s.chain c).follow = .header link → lastRead .chain (.header c) bytes more s →
    (let ch := s.chain c
     let u := served .chain more s
     let raise := (field bytes 5 1).testBit 0
     let answers := fun (t : State) => exec (.headerReadComplete c) s = .next (rested t)
     let take := fun (v : Verdict) => asking [{ tag := .taken c, addr := link + 6, data := .write [1], note := none }]
       (withChain c { ch with follow := .taken link v raise [] } u)
     (field bytes 6 1 ≠ 0 →
        answers (asking [areaPost s (68 + 16 * chainIndex c) (be32 ch.cursor ++ [3]) none, areaPost s 161 [2] (some .fault)]
          (withChain c { ch with state := .halted, follow := .idle } u)))
      ∧ (field bytes 6 1 = 0 →
          (kindOf (field bytes 4 1) = none → answers (take (.reject .badKind)))
          ∧ (∀ k, kindOf (field bytes 4 1) = some k →
              (kindBelongs c k = false → answers (take (.reject .wrongChain)))
              ∧ (kindBelongs c k = true → s.dram.installed < link + recordLength k → answers (take (.reject .badField)))
              ∧ (kindBelongs c k = true → link + recordLength k ≤ s.dram.installed →
                  (recordLength k = 12 → answers (take (.pass k)))
                  ∧ (recordLength k ≠ 12 →
                      answers (asking [{ tag := .body c, addr := link + 12, data := .read (recordLength k - 12) [], note := none }]
                        (withChain c { ch with follow := .body link k raise } u)))))))

/-- When the body of a kind other than SCAN TABLE LOAD has been read, TAKEN is written to the record's STATE and
nothing else changes. When the TAKEN write has completed, with the engine RUNNING and the part ACTIVE, the chain is
BUSY with the record as its cursor, no cut pending and no follow, the record is TAKEN with its body handed to the
engine, and the anchor is posted BUSY; a rejected record ends FAILED with its reason and result word 0. That the upper
byte of CURSOR is written 0 is the model's choice (log entry 64). -/
def Obligations.RecordTaken : Prop :=
  (∀ (s : State) (c : ChainId) (link : Nat) (k : Kind) (raise : Bool) (bytes : List Byte) (more : List Xfer), s.power.state = .active →
      (s.chain c).follow = .body link k raise → k ≠ .scanTableLoad → lastRead .chain (.body c) bytes more s →
      exec (.bodyReadComplete c) s
        = .next (asking [{ tag := .taken c, addr := link + 6, data := .write [1], note := none }]
            (withChain c { s.chain c with follow := .taken link (.pass k) raise bytes }
              (served .chain more s))))
    ∧ (∀ (s : State) (c : ChainId) (link : Nat) (v : Verdict) (raise : Bool) (body : List Byte) (more : List Xfer),
        s.power.state = .active → s.regs.engine = .running → (s.chain c).follow = .taken link v raise body →
        lastWrite .chain (.taken c) (link + 6) [1] more s →
        (let u := fun (k : Kind) (st : Stage) => withChain c
           { state := .busy, cursor := link, cutPending := false, follow := .idle
             taken := some { addr := link, kind := k, raise := raise, body := body, stage := st } }
           (served .chain more (writeBytes s (link + 6) [1]))
         let anchor := areaPost s (68 + 16 * chainIndex c) (be32 link ++ [1]) none
         (∀ k, v = .pass k → exec (.takenWriteComplete c) s = .next (asking [anchor] (u k .handed)))
          ∧ (∀ why, v = .reject why →
              Completes (.takenWriteComplete c) s fun t =>
                (∃ k, t.chain c = (u k (.ending .failed false)).chain c)
                  ∧ t.dram.chain = more ++ anchor :: endXfers c link .failed why [(8, [0, 0, 0, 0])]
                  ∧ (∀ e, e ≠ c → t.chain e = s.chain e) ∧ t.regs = s.regs ∧ keptEngines s t
                  ∧ t.dram.cells = (writeBytes s (link + 6) [1]).dram.cells)))

/-- When the STATE write has completed, with the engine RUNNING and nothing waiting elsewhere: the record is ended,
cut-pending is clear, the chain's end note is raised if the record ended FAILED or CUT or has RAISE set; under a cut
pending at the hand-over the chain is PARKED and its anchor posted, otherwise a follow reads the ended record's LINK.
Nothing else changes. That the upper byte of CURSOR is written 0 is the model's choice (log entry 64). -/
def Obligations.StateWriteEnds : Prop :=
  ∀ (s : State) (c : ChainId) (r : Taken) (o : RecordOutcome) (park : Bool) (more : List Xfer), calm s → s.regs.engine = .running →
    (s.chain c).taken = some r → r.stage = .ending o park → lastWrite .chain (.state c) (r.addr + 6) (be8 o.code) more s →
    (let ch := { s.chain c with cutPending := false, taken := none }
     let note : Note := match c with
       | .scan => .scanEnd | .print => .printEnd | .send => .sendEnd | .receive => .receiveEnd
       | .docMotion => .motionEnd | .paperMotion => .motionEnd
     let w := served .chain more (writeBytes s (r.addr + 6) (be8 o.code))
     let u := { w with
       regs := { s.regs with notes :=
         if o = .failed ∨ o = .cut ∨ r.raise = true then s.regs.notes ||| 1#10 <<< note.index else s.regs.notes } }
     (park = true → exec (.stateWriteComplete c) s
        = .next (rested (asking [areaPost s (68 + 16 * chainIndex c) (be32 ch.cursor ++ [2]) none]
            (withChain c { ch with state := .parked, follow := .idle } u))))
      ∧ (park = false → exec (.stateWriteComplete c) s
        = .next (rested (asking [{ tag := .link c, addr := ch.cursor, data := .read 4 [], note := none }]
            (withChain c { ch with state := .busy, follow := .link .fromEnd } u)))))

/-- While every unit waits for an event, a SCAN PAGE just handed to its engine: a bad field ends it FAILED BAD-FIELD,
a page that is not EMPTY FAILED PAGE-BUSY, both without touching channel, lamp or page. With channel D STEPPING or
STOPPING under a motion record it enters WAIT-OWNER with lamp and channel as they are. With the channel OFF or HOLDING
under owner NONE or CHAIN: an open cover ends its claim FAILED COVER-OPEN with both untouched; else it owns channel D
with the floor of its line period over spl and no hold timer, and with the lamp OFF and a warm-up time the lamp is
WARMING for that time. The line limit is clamped to 1 to 6000, the top to the table. -/
def Obligations.ScanPageActs : Prop :=
  ∀ (s : State) (r : Taken), atRest s → s.scan.work = none → justHanded .scan .scanPage r s →
    (let f := fun o n => field r.body o n
     let d := s.motion.d
     let bad := 16 ≤ f 0 1 ∨ f 1 1 % 4 = 0 ∨ (f 2 1 ≠ 1 ∧ f 2 1 ≠ 2 ∧ f 2 1 ≠ 4) ∨ 1 < f 3 1 ∨ f 10 2 = 0
     let empty := (s.store.page (f 0 1)).state = .empty
     let free := (d.state = .off ∨ d.state = .holding) ∧ (d.owner = .none ∨ d.owner = .chain) ∧ d.stepDue = none
     let ended := fun why => Completes .scanPage s fun t =>
       EndsWith .scan r .failed why s t ∧ keptBut .scan s t ∧ keptEngines s t
     let asked := fun (j : ScanJob) => j.request.page = f 0 1 ∧ j.request.spl = f 2 1
       ∧ j.request.lineLimit = min 6000 (max 1 (f 8 2)) ∧ j.request.feedLimit = f 10 2 ∧ j.request.eject = f 12 2
       ∧ j.captured = 0 ∧ j.pauses = 0 ∧ j.created = false
     let working := fun (t : State) => t.chain .scan = { s.chain .scan with taken := some { r with stage := .working } }
       ∧ keptBut .scan s t ∧ t.store = s.store ∧ t.print = s.print ∧ t.modem = s.modem ∧ t.motion.p = s.motion.p
     (bad → ended .badField)
      ∧ (¬ bad → ¬ empty → ended .pageBusy)
      ∧ (¬ bad → empty → d.state = .stepping ∨ d.state = .stopping → d.owner = .chain → Completes .scanPage s fun t =>
          (∃ j, t.scan = { s.scan with work := some (.page j) } ∧ j.phase = .waitOwner ∧ asked j)
            ∧ t.motion = s.motion ∧ working t)
      ∧ (¬ bad → empty → free → s.level .coverOpen = true → ended .coverOpen)
      ∧ (¬ bad → empty → free → s.level .coverOpen = false → s.scan.lamp = .off →
          0 < s.scan.tables.geometry.warmMs → Completes .scanPage s fun t =>
            (∃ j, t.scan = { s.scan with
                work := some (.page j), lamp := .warming, lingerTimer := none, lineTimer := none
                warmTimer := some (s.scan.tables.geometry.warmMs * 1000) } ∧ j.phase = .warmUp ∧ asked j
                ∧ j.top = min (f 7 1) (d.table.ramp.length - 1))
              ∧ t.motion.d = { d with
                  owner := .scan, holdTimer := none, floor := some (ceilDiv s.scan.tables.geometry.period (f 2 1)) }
              ∧ working t))

/-- While every unit waits for an event: a GRAY CAPTURE whose rows are not 1 to 16, whose address is no multiple of 4
or which ends beyond the DRAM ends FAILED BAD-FIELD; a good one waits while a motion record moves channel D, and takes
a free one under a closed cover and, with the lamp OFF, warms it up. A SCAN TABLE LOAD whose present parts all pass
replaces them and ends DONE, an absent part and, without a new GEOMETRY, the line timing staying as they are;
otherwise it ends FAILED BAD-TABLE with the tables as they were. GEOMETRY passes exactly if pixel clock and tap count
are 1, 2 or 4, L is a multiple of 4 in 1728 to 4096, the period 500 to 20000, each tap in use has direction +1 or −1,
an offset in −32 to +31 and both ends inside the sensor, the window fits and the readout fits the period; MATRIX
exactly if its masks are 0, 1, 3 or 7; GAIN exactly if no gain is above 1023. The values taken are the fields. -/
def Obligations.GrayAndScanTables : Prop :=
  (∀ (s : State) (r : Taken), atRest s → s.scan.work = none → justHanded .scan .grayCapture r s →
      (let a := addrField r.body 0
       let n := field r.body 4 1
       let d := s.motion.d
       let bad := a % 4 ≠ 0 ∨ n = 0 ∨ 16 < n ∨ s.dram.installed < a + 1728 * n
       let job := fun ph => some (ScanWork.gray { addr := a, count := n, stored := 0, phase := ph, outcome := none })
       let kept := fun (t : State) => keptBut .scan s t ∧ t.store = s.store ∧ t.print = s.print ∧ t.modem = s.modem
       (bad → Completes .grayCapture s fun t =>
          EndsWith .scan r .failed .badField s t ∧ keptBut .scan s t ∧ keptEngines s t)
        ∧ (¬ bad → d.state = .stepping ∨ d.state = .stopping → d.owner = .chain → Completes .grayCapture s fun t =>
            t.scan = { s.scan with work := job .waitOwner } ∧ t.motion = s.motion ∧ kept t)
        ∧ (¬ bad → d.state = .off ∨ d.state = .holding → d.owner = .none ∨ d.owner = .chain →
            s.level .coverOpen = false → s.scan.lamp = .off →
            0 < s.scan.tables.geometry.warmMs → Completes .grayCapture s fun t =>
              t.scan = { s.scan with
                  work := job .warmUp, lamp := .warming, lingerTimer := none, lineTimer := none
                  warmTimer := some (s.scan.tables.geometry.warmMs * 1000) }
                ∧ t.motion.d = { d with owner := .scan, holdTimer := none, floor := none } ∧ kept t)))
    ∧ (∀ (s : State) (r : Taken), atRest s → s.scan.work = none → justHanded .scan .scanTableLoad r s →
        (scanTablesOf s.scan.tables r.body = none →
          exec .scanTableLoad s = .next (rested (ending .scan r .failed .badTable [(8, [0, 0, 0, 0])] s)))
        ∧ (∀ tables, scanTablesOf s.scan.tables r.body = some tables →
            exec .scanTableLoad s = .next (rested (ending .scan r .done .none [(8, [0, 0, 0, 0])] { s with
              scan := { s.scan with
                tables := tables
                lineTimer := if (field r.body 0 1).testBit 0 then s.scan.lineTimer.map (fun _ => tables.geometry.period)
                  else s.scan.lineTimer } }))))
    ∧ (∀ (old new : ScanTables) (data : List Byte),
        (let has := fun i => (field data 0 1).testBit i
         let matrixAt := if has 0 then 40 else 4
         let gainAt := matrixAt + if has 1 then 68 else 0
         scanTablesOf old data = some new ↔
          (if has 0 then geometryOf (data.drop 4) = some new.geometry else new.geometry = old.geometry)
            ∧ (if has 1 then matrixOf (data.drop matrixAt) = some new.matrix else new.matrix = old.matrix)
            ∧ (if has 2 then gainOf (data.drop gainAt) = some new.gain else new.gain = old.gain)))
    ∧ (∀ data : List Byte,
        (let f := fun o n => field data o n
         let taps := f 1 1
         let l := f 2 2
         let last := fun t => (f (12 + 6 * t) 2 : Int) + signedByte (f (14 + 6 * t) 1) * ((l / taps : Nat) - 1 : Int)
         let tap := fun t => (signedByte (f (14 + 6 * t) 1) = 1 ∨ signedByte (f (14 + 6 * t) 1) = -1)
           ∧ -32 ≤ signedByte (f (16 + 6 * t) 1) ∧ signedByte (f (16 + 6 * t) 1) ≤ 31
           ∧ f (12 + 6 * t) 2 < l ∧ 0 ≤ last t ∧ last t < l
         let good := (f 0 1 = 1 ∨ f 0 1 = 2 ∨ f 0 1 = 4) ∧ (taps = 1 ∨ taps = 2 ∨ taps = 4) ∧ 1728 ≤ l ∧ l ≤ 4096
           ∧ l % 4 = 0 ∧ 500 ≤ f 4 2 ∧ f 4 2 ≤ 20000 ∧ (∀ t, t < taps → tap t) ∧ f 6 2 + 1728 ≤ l ∧ l ≤ f 4 2 * f 0 1
         (¬ good → geometryOf data = none)
          ∧ (good → geometryOf data = some
              { pixelMHz := f 0 1, taps := taps, elements := l, period := f 4 2, window := f 6 2, warmMs := f 8 2
                lingerS := f 10 1
                tapMap := (List.range taps).map fun t =>
                  { start := f (12 + 6 * t) 2, dir := signedByte (f (14 + 6 * t) 1)
                    invert := decide (f (15 + 6 * t) 1 ≠ 0), offset := signedByte (f (16 + 6 * t) 1) } })))
    ∧ (∀ data : List Byte,
        (let mask := fun o => field data o 1 = 0 ∨ field data o 1 = 1 ∨ field data o 1 = 3 ∨ field data o 1 = 7
         (¬ (mask 0 ∧ mask 1) → matrixOf data = none)
          ∧ (mask 0 ∧ mask 1 → matrixOf data = some
              { rowMask := field data 0 1, colMask := field data 1 1
                cells := (List.range 64).map fun i => field data (4 + i) 1 })))
    ∧ (∀ data : List Byte,
        (let gain := fun p => field data (2 * p) 2
         (∀ p, p < 1728 → 1023 < gain p → gainOf data = none)
          ∧ ((∀ p, p < 1728 → gain p ≤ 1023) → gainOf data = some ((List.range 1728).map gain))))

/-- While every unit waits for an event, a PRINT PAGE just handed to its engine: a field that R68 calls bad ends it
FAILED BAD-FIELD, supply and channel untouched; an end as BAD-FIELD, COVER-OPEN or PAGE-BUSY removes PRINT from a page
source that is not EMPTY, which keeps its bands if FILL or KEEP holds it and else lapses to EMPTY; else, with channel
P STEPPING or STOPPING under a motion record, it waits; under an open cover its claim on a free channel ends FAILED
COVER-OPEN; under a closed one it owns the channel, and a PAGE source that is EMPTY waits in WAIT-PAGE; one not EMPTY
with base line above 0 ends it FAILED PAGE-BUSY; one not EMPTY with base line 0 is attached, PRINT added with a post
of its entry if it was not held, and so goes on as LINES does: with the supply OFF and a settle time it is SETTLING,
the history is white, and source line 0 is read. Scale, interval and top are clamped. That bits the tables do not name
are written 0 is the model's choice (log entry 65). -/
def Obligations.PrintPageActs : Prop :=
  ∀ (s : State) (r : Taken), atRest s → s.print.work = none → s.print.fetch = .idle → s.regs.engine = .running →
    justHanded .print .printPage r s →
    (let f := fun o n => field r.body o n
     let p := s.motion.p
     let addr := addrField r.body 4
     let bad := 1 < f 0 1 ∨ (f 0 1 = 0 ∧ 16 ≤ f 1 1)
       ∨ (f 0 1 = 1 ∧ (addr % 4 ≠ 0 ∨ f 8 2 < 216 ∨ 65532 < f 8 2 ∨ f 8 2 % 4 ≠ 0 ∨ f 10 2 = 0 ∨ 8192 < f 10 2
          ∨ s.dram.installed ≤ addr + f 8 2 * (f 10 2 - 1) + 215))
       ∨ (f 2 1 ≠ 0 ∧ (f 3 1 = 0 ∨ 64 < f 3 1 ∨ s.dram.installed < r.addr + 48 + 216 * f 3 1))
     let free := (p.state = .off ∨ p.state = .holding) ∧ (p.owner = .none ∨ p.owner = .chain) ∧ p.stepDue = none
     let page := s.store.page (f 1 1)
     let others := fun (t : State) => keptBut .print s t ∧ t.scan = s.scan ∧ t.modem = s.modem ∧ t.motion.d = s.motion.d
     let ended := fun why => fun (t : State) => EndsWith .print r .failed why s t ∧ t.print.work = none
       ∧ t.print.supply = s.print.supply ∧ t.print.fetch = .idle ∧ t.print.h1 = s.print.h1 ∧ t.print.h2 = s.print.h2
       ∧ keptBut .print s t ∧ (f 0 1 ≠ 0 ∨ page.print = false ∨ page.state = .empty → t.store = s.store ∧ others t)
       ∧ (f 0 1 = 0 → f 1 1 < s.store.pages.length → page.print = true → page.state ≠ .empty →
           (∀ i, i ≠ f 1 1 → t.store.page i = s.store.page i)
             ∧ areaPost s (288 + 16 * f 1 1) (pageEntry (t.store.page (f 1 1))) none ∈ t.dram.chain
             ∧ (page.fill = true ∨ page.keep = true → t.store.page (f 1 1) = { page with print := false }
                 ∧ t.store.bands = s.store.bands ∧ t.store.count = s.store.count)
             ∧ (page.fill = false → page.keep = false →
                 t.store.page (f 1 1) = { state := .empty, fill := false, print := false, keep := false, lines := 0
                                          base := 0, first := none, last := none, count := 0, spl := 0, cause := page.cause }
                   ∧ (∀ b ∈ s.store.walk page.first page.count, (t.store.band b).state = .free)
                   ∧ t.store.count = s.store.count + (s.store.walk page.first page.count).length))
     let working := fun (t : State) => t.chain .print = { s.chain .print with taken := some { r with stage := .working } }
       ∧ others t
     let owned := fun (j : PrintJob) (t : State) => t.print.work = some j ∧ j.request.scale = min 1024 (max 64 (f 12 2))
       ∧ j.interval = max (f 14 2) (p.table.ramp.getD 0 0) ∧ j.top = min (f 22 1) (p.table.ramp.length - 1)
       ∧ t.motion.p = { p with owner := .print, holdTimer := none, floor := none } ∧ working t
     let settling := fun (t : State) => (∃ j, owned j t ∧ j.phase = .supplySettle) ∧ t.print.supply = .settling
       ∧ t.print.settleTimer = some (s.print.heat.settleMs * 1000) ∧ t.print.h1 = Line.white ∧ t.print.h2 = Line.white
       ∧ t.print.lineStore = none ∧ t.print.accLine = 0 ∧ t.print.accProduct = 0
     let reads := fun a (t : State) => t.print.fetch = .reading true false
       ∧ t.dram.print = s.dram.print ++ [{ tag := .source, addr := a, data := .read 216 [], note := none }]
     let supplyOff := s.print.supply = .off ∧ 0 < s.print.heat.settleMs
     (bad → Completes .printPage s fun t => ended .badField t ∧ t.motion.p = p)
      ∧ (¬ bad → p.state = .stepping ∨ p.state = .stopping → p.owner = .chain → Completes .printPage s fun t =>
          (∃ j, t.print = { s.print with work := some j } ∧ j.phase = .waitOwner) ∧ t.motion = s.motion
            ∧ t.store = s.store ∧ working t)
      ∧ (¬ bad → free → s.level .coverOpen = true → Completes .printPage s fun t =>
          ended .coverOpen t ∧ t.motion.p = p)
      ∧ (¬ bad → free → s.level .coverOpen = false → f 0 1 = 0 →
          (page.state = .empty → Completes .printPage s fun t =>
              (∃ j, owned j t ∧ j.phase = .waitPage) ∧ t.print.supply = s.print.supply ∧ t.store = s.store)
          ∧ (page.state ≠ .empty → page.base ≠ 0 → Completes .printPage s fun t =>
              ended .pageBusy t ∧ t.motion.p.owner = .none ∧ t.motion.p.position = p.position)
          ∧ (page.state ≠ .empty → page.base = 0 → f 1 1 < s.store.pages.length → s.store.room = s.store.roomNow → supplyOff →
              Completes .printPage s fun t => settling t
                ∧ t.store.page (f 1 1) = { page with print := true }
                ∧ (∀ i, i ≠ f 1 1 → t.store.page i = s.store.page i) ∧ t.store.bands = s.store.bands
                ∧ t.store.count = s.store.count ∧ (page.print = true → t.store = s.store)
                ∧ (page.print = false → areaPost s (288 + 16 * f 1 1) (pageEntry { page with print := true }) none
                    ∈ t.dram.chain)
                ∧ (0 < page.lines → f 2 1 = 0 → reads (t.store.lineAddr (f 1 1) 0) t)
                ∧ (page.state = .filling → page.lines = 0 → t.print.fetch = .waiting)))
      ∧ (¬ bad → free → s.level .coverOpen = false → f 0 1 = 1 → supplyOff → Completes .printPage s fun t =>
          settling t ∧ t.store = s.store ∧ (f 2 1 = 0 → reads addr t)))

/-- While every unit waits for an event: a HEAT TABLE LOAD whose values pass replaces the heat table and ends DONE; a
MOTOR TABLE LOAD whose values pass takes a channel owned by none or by a chain record, replaces that channel's table
and ends DONE, and waits on a channel an engine owns. A table that does not pass ends the record FAILED BAD-TABLE with
the table as it was. A heat table passes exactly if its 16 entries are at most 4095, min pulse is at most max pulse
and that at most 4095, 1 ≤ k_hot ≤ k_warm ≤ 16, the dot limit is 1 to 1728, the head clock 2, 4 or 8, T_stop above 0
and above T_resume, and the overheat limit above 0; a motor table exactly if its stride is 1 or 2, R 1 to 32 and each
of the R ramp entries at least 100. The values taken are the fields. -/
def Obligations.TableLoads : Prop :=
  (∀ (s : State) (r : Taken), atRest s → s.print.work = none → justHanded .print .heatTableLoad r s →
      (heatTableOf r.body = none →
        exec .heatTableLoad s = .next (rested (ending .print r .failed .badTable [(8, [0, 0, 0, 0])] s)))
      ∧ (∀ table, heatTableOf r.body = some table →
          exec .heatTableLoad s = .next (rested (ending .print r .done .none [(8, [0, 0, 0, 0])]
            { s with print := { s.print with heat := table } }))))
    ∧ (∀ (s : State) (c : ChannelId) (r : Taken), atRest s → s.job c = none →
        justHanded (motionChain c) .motorTableLoad r s →
        (let kept := fun (t : State) => (∀ e, e ≠ c → t.channel e = s.channel e) ∧ keptBut (motionChain c) s t
           ∧ t.store = s.store ∧ t.scan = s.scan ∧ t.print = s.print ∧ t.modem = s.modem
         (motorTableOf r.body = none → exec (.motorTableLoad c) s
            = .next (rested (ending (motionChain c) r .failed .badTable [(8, [0, 0, 0, 0])] s)))
          ∧ (∀ table, motorTableOf r.body = some table →
            ((s.channel c).owner = .none ∨ (s.channel c).owner = .chain → Completes (.motorTableLoad c) s fun t =>
                t.channel c = { s.channel c with owner := .chain, table := table }
                  ∧ EndsWith (motionChain c) r .done .none s t ∧ t.job c = none ∧ kept t)
              ∧ ((s.channel c).owner = .scan ∨ (s.channel c).owner = .print → Completes (.motorTableLoad c) s fun t =>
                t.job c = some { request := .table table, phase := .waitOwner } ∧ t.channel c = s.channel c ∧ kept t))))
    ∧ (∀ data : List Byte,
        (let f := fun o n => field data o n
         let good := (∀ i, i < 16 → f (2 * i) 2 ≤ 4095) ∧ f 32 2 ≤ f 34 2 ∧ f 34 2 ≤ 4095 ∧ 1 ≤ f 36 1 ∧ f 36 1 ≤ f 37 1
           ∧ f 37 1 ≤ 16 ∧ 1 ≤ f 38 2 ∧ f 38 2 ≤ 1728 ∧ (f 40 1 = 2 ∨ f 40 1 = 4 ∨ f 40 1 = 8) ∧ 0 < f 43 1
           ∧ f 44 1 < f 43 1 ∧ 0 < f 45 1
         (¬ good → heatTableOf data = none)
          ∧ (good → heatTableOf data = some
              { energy := (List.range 16).map fun i => f (2 * i) 2, minPulse := f 32 2, maxPulse := f 34 2
                kHot := f 36 1, kWarm := f 37 1, dotLimit := f 38 2, clockMHz := f 40 1, settleMs := f 41 1
                lingerS := f 42 1, tStop := f 43 1, tResume := f 44 1, overheatS := f 45 1, coolMs := f 46 2 })))
    ∧ (∀ data : List Byte,
        (let f := fun o n => field data o n
         let good := (f 8 1 = 1 ∨ f 8 1 = 2) ∧ 1 ≤ f 9 1 ∧ f 9 1 ≤ 32 ∧ ∀ i, i < f 9 1 → 100 ≤ f (12 + 2 * i) 2
         (¬ good → motorTableOf data = none)
          ∧ (good → motorTableOf data = some
              { patterns := (List.range 8).map fun i => BitVec.ofNat 4 (f i 1), stride := f 8 1
                ramp := (List.range (f 9 1)).map fun i => f (12 + 2 * i) 2, holdMs := f 10 2 })))

/-- With nothing waiting elsewhere: a SEND BLOCK with fields in range begins on an UP link with no modem fault, ends
an underrun and fetches its first bytes; a MODE CHANGE sets the mode code in force; a CONDITION WAIT whose masked code
matches ends DONE at once, else waits with its timeout, none for 0. On a DOWN link each ends FAILED LINK-DOWN; code 15
in force ends the first two FAILED MODEM-FAULT. A bad field ends each FAILED BAD-FIELD, an underrun and its fill going
on. That LINK-DOWN is tested before code 15 (log entry 18), that a refused MODE CHANGE leaves the mode code (log entry
23), the length of the first fetch (log entry 28), that a SEND BLOCK failing BAD-FIELD leaves an underrun (log entry
45) that a bad field is tested before the link (log entry 55) and that the result word is written last (log entry 59)
are the model's choices. That bits the tables do not name are written 0 is the model's choice (log entry 65). -/
def Obligations.SendRecordsAct : Prop :=
  (∀ (s : State) (r : Taken), calm s → justHanded .send .sendBlock r s → 1024 ≤ s.dram.installed →
      (let a := addrField r.body 4
       let n := field r.body 8 2
       let good := field r.body 0 1 ≤ 15 ∧ a % 4 = 0 ∧ 1 ≤ n ∧ a + n ≤ s.dram.installed
       let first := min (min 16 n) (s.dram.installed / 1024 - a % (s.dram.installed / 1024))
       let failed := fun why => Completes .sendBlock s fun t =>
         EndsWith .send r .failed why s t ∧ keptBut .send s t ∧ keptEngines s t
       (¬ good → failed .badField) ∧ (good → s.modem.linkUp = false → failed .linkDown)
        ∧ (good → s.modem.linkUp = true → s.modem.code = 15 → failed .modemFault)
        ∧ (good → s.modem.linkUp = true → s.modem.code ≠ 15 → exec .sendBlock s = .next (rested
            (withChain .send { s.chain .send with taken := some { r with stage := .working } } { s with
              dram := { s.dram with modem := s.dram.modem ++
                [{ tag := .sendFetch, addr := a, data := .read first [], note := none }] }
              modem := { s.modem with
                underrun := false, store := [], fetching := first
                sendWork := some (.block
                  { mode := BitVec.ofNat 4 (field r.body 0 1), addr := a, count := n
                    last := (field r.body 1 1).testBit 0, fillOk := (field r.body 1 1).testBit 1
                    fillByte := BitVec.ofNat 8 (field r.body 2 1), fetched := first, offered := 0, sent := 0 }) } })))))
    ∧ (∀ (s : State) (r : Taken), calm s → justHanded .send .modeChange r s → 15 < field r.body 0 1 →
        Completes .modeChange s fun t => EndsWith .send r .failed .badField s t ∧ keptBut .send s t ∧ keptEngines s t)
    ∧ (∀ (s : State) (r : Taken), calm s → justHanded .send .modeChange r s → field r.body 0 1 ≤ 15 →
        (s.modem.linkUp = false → Completes .modeChange s fun t =>
            EndsWith .send r .failed .linkDown s t ∧ keptBut .send s t ∧ keptEngines s t)
        ∧ (s.modem.linkUp = true → s.modem.code = 15 → Completes .modeChange s fun t =>
            EndsWith .send r .failed .modemFault s t ∧ keptBut .send s t ∧ keptEngines s t)
        ∧ (s.modem.linkUp = true → s.modem.code ≠ 15 → exec .modeChange s = .next (rested
            (withChain .send { s.chain .send with taken := some { r with stage := .working } } { s with
              modem := { s.modem with
                mode := BitVec.ofNat 4 (field r.body 0 1), resetAbort := false
                sendWork := some (.mode (BitVec.ofNat 4 (field r.body 0 1)) 0 false) } }))))
    ∧ (∀ (s : State) (r : Taken), calm s → justHanded .send .conditionWait r s →
        (let m := BitVec.ofNat 4 (field r.body 0 1)
         let v := BitVec.ofNat 4 (field r.body 1 1)
         let ms := field r.body 2 2
         let good := field r.body 0 1 ≤ 15 ∧ field r.body 1 1 ≤ 15 ∧ v &&& m = v
         let results := [(16, be8 s.modem.code.toNat), (8, [0, 0, 0, 0])]
         (¬ good → exec .conditionWait s = .next (rested
            (let t := ending .send r .failed .badField results s
             { t with freeCount := s.freeCount + 1 })))
          ∧ (good → s.modem.linkUp = false →
            exec .conditionWait s = .next (rested (ending .send r .failed .linkDown results s)))
          ∧ (good → s.modem.linkUp = true → s.modem.code &&& m = v →
            exec .conditionWait s = .next (rested (ending .send r .done .none results s)))
          ∧ (good → s.modem.linkUp = true → s.modem.code &&& m ≠ v → exec .conditionWait s = .next (rested
              (withChain .send { s.chain .send with taken := some { r with stage := .working } } { s with
                modem := { s.modem with
                  sendWork := some (.wait m v s.now ms), waitTimer := if ms = 0 then none else some (ms * 1000) } })))))

/-- With nothing waiting elsewhere, a RECEIVE BUFFER with an address that is a multiple of 4, a length of 1 or more
and its last byte inside the DRAM waits for bytes on an UP link with no modem fault, its count at 0; with such a field
bad it ends FAILED BAD-FIELD, on a DOWN link FAILED LINK-DOWN, with code 15 in force FAILED MODEM-FAULT, each with
count 0 and message end 0. Nothing else changes. That LINK-DOWN is tested before code 15 (log entry 18), a bad field
before both (log entry 55) and the result word written last (log entry 59) are the model's choices. That bits the
tables do not name are written 0 is the model's choice (log entry 65). -/
def Obligations.ReceiveBufferActs : Prop :=
  ∀ (s : State) (r : Taken), calm s → justHanded .receive .receiveBuffer r s →
    (let a := addrField r.body 0
     let n := field r.body 4 2
     let good := a % 4 = 0 ∧ 1 ≤ n ∧ a + n ≤ s.dram.installed
     let failed := fun why => exec .receiveBuffer s
       = .next (rested (ending .receive r .failed why [(18, [0]), (8, [0, 0, 0, 0])] s))
     (¬ good → failed .badField) ∧ (good → s.modem.linkUp = false → failed .linkDown)
      ∧ (good → s.modem.linkUp = true → s.modem.code = 15 → failed .modemFault)
      ∧ (good → s.modem.linkUp = true → s.modem.code ≠ 15 → exec .receiveBuffer s = .next (rested
          (withChain .receive { s.chain .receive with taken := some { r with stage := .working } } { s with
            modem := { s.modem with
              receiveWork := some { addr := a, length := n, count := 0, outcome := none } } }))))

/-- With nothing waiting elsewhere, a MOVE just handed to its engine: a bad field ends it FAILED BAD-FIELD; on a
channel an engine owns it waits, the channel untouched, whatever the engine does with it; under an open cover it ends
FAILED COVER-OPEN without a step; on a channel owned by none or by a chain record, of 2 or more steps, the channel
becomes STEPPING: with no step since cold reset step 1 is issued in the event and the next follows after the start-
stop interval, else step 1 waits until that interval has passed since the last step; a MOVE of 1 step with KEEP-HOLD
then ends DONE in the event, HOLDING. -/
def Obligations.MoveActs : Prop :=
  (∀ (s : State) (c : ChannelId) (r : Taken), atRest s → s.job c = none → justHanded (motionChain c) .move r s →
    1 ≤ field r.body 0 2 → field r.body 2 1 ≤ 1 → field r.body 4 1 ≤ 2 →
    (s.channel c).owner = .scan ∨ (s.channel c).owner = .print → Completes (.move c) s fun t =>
      (∀ e, t.channel e = s.channel e) ∧ (∃ j, t.job c = some j ∧ j.phase = .waitOwner)
        ∧ t.chain (motionChain c) = { s.chain (motionChain c) with taken := some { r with stage := .working } }
        ∧ (∀ e, e ≠ c → t.job e = s.job e) ∧ keptBut (motionChain c) s t ∧ t.store = s.store ∧ t.scan = s.scan
        ∧ t.print = s.print ∧ t.modem = s.modem)
    ∧ ∀ (s : State) (c : ChannelId) (r : Taken), calm s → justHanded (motionChain c) .move r s →
    (let ch := s.channel c
     let n := field r.body 0 2
     let good := 2 ≤ n ∧ field r.body 2 1 ≤ 1 ∧ field r.body 4 1 ≤ 2
     let fwd := decide (field r.body 2 1 = 0)
     let free := ch.owner = .none ∨ ch.owner = .chain
     let kept := fun (t : State) => (∀ e, e ≠ c → t.channel e = s.channel e) ∧ keptBut (motionChain c) s t
       ∧ t.store = s.store ∧ t.scan = s.scan ∧ t.print = s.print ∧ t.modem = s.modem
     let start := { ch with
       owner := .chain, state := .stepping, ramp := 0, holdTimer := none
       profile := some { planned := n, issued := 0, forward := fwd, top := min (field r.body 3 1) (ch.table.ramp.length - 1) } }
     (n = 0 ∨ 1 < field r.body 2 1 ∨ 2 < field r.body 4 1 → Completes (.move c) s fun t =>
        EndsWith (motionChain c) r .failed .badField s t ∧ keptBut (motionChain c) s t ∧ keptEngines s t)
      ∧ (good → free → s.level .coverOpen = true → Completes (.move c) s fun t =>
          t.channel c = { ch with owner := .chain } ∧ t.job c = none
            ∧ EndsWith (motionChain c) r .failed .coverOpen s t ∧ kept t)
      ∧ (good → free → s.level .coverOpen = false → ch.lastStep = none → ch.floor = none → Completes (.move c) s fun t =>
          t.channel c = { start with
              phase := if fwd then ch.phase + BitVec.ofNat 3 ch.table.stride else ch.phase - BitVec.ofNat 3 ch.table.stride
              position := if fwd then ch.position + 1 else ch.position - 1
              lastStep := some s.now, stepDue := some (ch.table.interval 0)
              profile := start.profile.map fun p => { p with issued := 1 } }
            ∧ (∃ j, t.job c = some j ∧ j.phase = .running) ∧ kept t)
      ∧ (n = 1 → field r.body 2 1 ≤ 1 → field r.body 4 1 = 1 → free → s.level .coverOpen = false → ch.lastStep = none →
          Completes (.move c) s fun t =>
            t.channel c = { ch with
                owner := .chain, state := .holding, ramp := 0, holdTimer := none, profile := none, stepDue := none
                phase := if fwd then ch.phase + BitVec.ofNat 3 ch.table.stride else ch.phase - BitVec.ofNat 3 ch.table.stride
                position := if fwd then ch.position + 1 else ch.position - 1, lastStep := some s.now }
              ∧ t.job c = none ∧ EndsWith (motionChain c) r .done .none s t ∧ kept t)
      ∧ (∀ t0, good → free → s.level .coverOpen = false → ch.lastStep = some t0 → ch.floor = none →
          s.now < t0 + ch.table.interval 0 → Completes (.move c) s fun t =>
            t.channel c = { start with stepDue := some (t0 + ch.table.interval 0 - s.now) }
              ∧ (∃ j, t.job c = some j ∧ j.phase = .running) ∧ kept t))

/-- With nothing waiting elsewhere, a MOVE TO EDGE on a channel owned by none or by a chain record under a closed
cover: where the sensor already has the target level and no after-edge steps are asked it ends DONE without a step,
its end action applied; where it has not, and the last step lies less than the start-stop interval back, the channel
becomes STEPPING toward the step limit and waits out that interval. An open cover ends it FAILED COVER-OPEN; a sensor
other than the three document and paper sensors, a limit of 0 or a code out of range FAILED BAD-FIELD. -/
def Obligations.MoveToEdgeActs : Prop :=
  ∀ (s : State) (c : ChannelId) (r : Taken), calm s → justHanded (motionChain c) .moveToEdge r s →
    (let ch := s.channel c
     let f := fun o n => field r.body o n
     let kept := fun (t : State) => (∀ e, e ≠ c → t.channel e = s.channel e) ∧ keptBut (motionChain c) s t
       ∧ t.store = s.store ∧ t.scan = s.scan ∧ t.print = s.print ∧ t.modem = s.modem
     (f 0 2 = 0 ∨ 2 < f 4 1 ∨ 1 < f 5 1 ∨ 1 < f 6 1 ∨ 2 < f 8 1 → Completes (.moveToEdge c) s fun t =>
        EndsWith (motionChain c) r .failed .badField s t ∧ keptBut (motionChain c) s t ∧ keptEngines s t)
      ∧ (∀ e : EdgeRequest, 0 < f 0 2 → e.limit = f 0 2 → e.after = f 2 2 → sensorIndex e.sensor = f 4 1 → f 4 1 ≤ 2 →
          f 5 1 ≤ 1 → e.target = decide (f 5 1 = 1) → f 6 1 ≤ 1 → e.forward = decide (f 6 1 = 0) → e.top = f 7 1 →
          (match e.action with | .timedHold => 0 | .keepHold => 1 | .off => 2) = f 8 1 →
          ch.owner = .none ∨ ch.owner = .chain →
          (s.level .coverOpen = true → Completes (.moveToEdge c) s fun t =>
              t.channel c = { ch with owner := .chain } ∧ EndsWith (motionChain c) r .failed .coverOpen s t
                ∧ t.job c = none ∧ kept t)
          ∧ (s.level .coverOpen = false → s.level e.sensor = e.target → e.after = 0 → Completes (.moveToEdge c) s fun t =>
              EndsWith (motionChain c) r .done .none s t ∧ t.job c = none ∧ (t.channel c).position = ch.position
                ∧ (t.channel c).phase = ch.phase ∧ (t.channel c).owner = .chain
                ∧ ((t.channel c).state, (t.channel c).holdTimer) = (match e.action with
                    | .timedHold => if ch.table.holdMs = 0 then (.off, none) else (.holding, some (ch.table.holdMs * 1000))
                    | .keepHold => (.holding, none)
                    | .off => (.off, none)) ∧ kept t)
          ∧ (∀ t0, s.level .coverOpen = false → s.level e.sensor ≠ e.target → ch.lastStep = some t0 → ch.floor = none →
              s.now < t0 + ch.table.interval 0 → Completes (.moveToEdge c) s fun t =>
                t.channel c = { ch with
                    owner := .chain, state := .stepping, ramp := 0, holdTimer := none
                    stepDue := some (t0 + ch.table.interval 0 - s.now)
                    profile := some { planned := e.limit, issued := 0, forward := e.forward
                                      top := min e.top (ch.table.ramp.length - 1) } }
                  ∧ t.job c = some { request := .edge e, phase := .search } ∧ kept t)))

/-- With nothing waiting elsewhere and the channel owned by none or by a chain record: HOLD makes it HOLDING with the
hold timer idle and ends DONE, or under an open cover leaves its state and ends FAILED COVER-OPEN; RELEASE makes it
OFF with the hold timer idle and ends DONE, the cover open or closed. The record owns the channel. Result word 0.
Position, phase and everything else stay. -/
def Obligations.HoldAndRelease : Prop :=
  ∀ (s : State) (c : ChannelId) (r : Taken), calm s → (s.channel c).owner = .none ∨ (s.channel c).owner = .chain →
    (let ch := s.channel c
     let acts := fun (i : Instr) (new : Channel) (o : RecordOutcome) (why : Reason) => Completes i s fun t =>
       t.channel c = new ∧ t.job c = none ∧ EndsWith (motionChain c) r o why s t
         ∧ { tag := .result (motionChain c), addr := r.addr + 8, data := .write [0, 0, 0, 0], note := none } ∈ t.dram.chain
         ∧ (∀ e, e ≠ c → t.channel e = s.channel e) ∧ keptBut (motionChain c) s t ∧ t.store = s.store
         ∧ t.scan = s.scan ∧ t.print = s.print ∧ t.modem = s.modem
     (justHanded (motionChain c) .hold r s →
        (s.level .coverOpen = false →
          acts (.hold c) { ch with owner := .chain, state := .holding, holdTimer := none } .done .none)
        ∧ (s.level .coverOpen = true → acts (.hold c) { ch with owner := .chain } .failed .coverOpen))
      ∧ (justHanded (motionChain c) .release r s →
          acts (.release c) { ch with owner := .chain, state := .off, holdTimer := none } .done .none))

/-- With nothing waiting elsewhere, a SENSOR WAIT on a channel owned by none or by a chain record ends DONE with 0 ms
where the level holds, else waits with its timer at the timeout in ms, idle for 0; a bad sensor or level code ends it
FAILED BAD-FIELD. The expiry of the timer ends the waiting record FAILED SENSOR-TIMEOUT with the timeout as its ms
waited and its job and timer gone. The channel's state and position stay. That the event does not arise before its
timer is at 0 is the model's reading (log entry 7). -/
def Obligations.SensorWaits : Prop :=
  (∀ (s : State) (c : ChannelId) (r : Taken), calm s → justHanded (motionChain c) .sensorWait r s →
      (let ch := s.channel c
       let kept := fun (t : State) => t.channel c = { ch with owner := .chain } ∧ (∀ e, e ≠ c → t.channel e = s.channel e)
         ∧ keptBut (motionChain c) s t ∧ t.store = s.store ∧ t.scan = s.scan ∧ t.print = s.print ∧ t.modem = s.modem
       (5 < field r.body 0 1 ∨ 1 < field r.body 1 1 → Completes (.sensorWait c) s fun t =>
          EndsWith (motionChain c) r .failed .badField s t ∧ keptBut (motionChain c) s t ∧ keptEngines s t)
        ∧ (∀ n level, sensorIndex n = field r.body 0 1 → field r.body 1 1 ≤ 1 → level = decide (field r.body 1 1 = 1) →
            ch.owner = .none ∨ ch.owner = .chain →
            (s.level n = level → Completes (.sensorWait c) s fun t =>
                EndsWith (motionChain c) r .done .none s t ∧ t.job c = none ∧ kept t
                  ∧ { tag := .result (motionChain c), addr := r.addr + 8, data := .write [0, 0, 0, 0], note := none }
                      ∈ t.dram.chain)
              ∧ (s.level n ≠ level → Completes (.sensorWait c) s fun t =>
                t.job c = some { request := .wait n level (field r.body 2 2), phase := .waiting s.now }
                  ∧ t.waitTimer c = (if field r.body 2 2 = 0 then none else some (field r.body 2 2 * 1000)) ∧ kept t))))
    ∧ (∀ (s : State) (c : ChannelId) (r : Taken) (n : Sensor) (level : Bool) (ms t0 : Nat),
        atRest s → s.job c = some { request := .wait n level ms, phase := .waiting t0 } →
        s.waitTimer c = some 0 → (s.chain (motionChain c)).taken = some r → r.stage = .working →
        exec (.sensorWaitTimeout c) s
          = .next (rested (((ending (motionChain c) r .failed .sensorTimeout [(8, be32 ms)] s).setJob c none).setWaitTimer c none)))
    ∧ (∀ (s : State) (c : ChannelId), s.waitTimer c ≠ some 0 → exec (.sensorWaitTimeout c) s = .next s)

/-- With a motion record in its profile and nothing waiting elsewhere: step j below n moves phase by the stride and
position by 1 in the profile's direction, and leaves the ramp index 0 after step 1, else the least of x + 1, the top
and n − j − 1, the next step due after that index's interval. Step n applies the end action, TIMED-HOLD, KEEP-HOLD or
OFF, and ends the record: DONE, but FAILED NO-EDGE in a search. Under a SCAN PAGE the interval is lengthened to the
floor: the last step of FEED ends it FAILED MISFEED; the last lead-in step sets the capture reference to the position
and enters CAPTURE, the motor running on where room allows; a step that brings CAPTURE to rest enters PAUSED with the
band wait loaded; the last step of a deceleration or of EJECT enters CLOSING while a buffer is written. A channel
without a step due now does not step: that is the model's reading (log entry 7). -/
def Obligations.StepActs : Prop :=
  (∀ (s : State) (c : ChannelId) (r : Taken) (q : MotionRequest) (ph : MotionPhase) (a : EndAction) (pr : Profile),
    plain s → s.scan.work = none → s.print.work = none →
    (∀ e, e ≠ c → s.job e = none) → s.job c = some { request := q, phase := ph } →
    ((∃ n fwd top, q = .move n fwd top a ∧ ph = .running)
      ∨ (∃ e, q = .edge e ∧ e.action = a ∧ (ph = .search ∨ ∃ b, ph = .afterEdge b))) →
    (s.chain (motionChain c)).taken = some r → r.stage = .working → (s.chain (motionChain c)).cutPending = false →
    (let ch := s.channel c
     let j := pr.issued + 1
     let moved := { ch with
       phase := if pr.forward then ch.phase + BitVec.ofNat 3 ch.table.stride else ch.phase - BitVec.ofNat 3 ch.table.stride
       position := if pr.forward then ch.position + 1 else ch.position - 1, lastStep := some s.now }
     let kept := fun (t : State) => (∀ e, e ≠ c → t.channel e = s.channel e) ∧ keptBut (motionChain c) s t
       ∧ t.store = s.store ∧ t.scan = s.scan ∧ t.print = s.print ∧ t.modem = s.modem
     ch.owner = .chain → ch.floor = none → (ch.state = .stepping ∨ ch.state = .stopping) → ch.profile = some pr →
      ch.stepDue = some 0 →
      (j < pr.planned → Completes (.step c) s fun t =>
          (let x := if j = 1 then 0 else min (min (ch.ramp + 1) pr.top) (pr.planned - j - 1)
           t.channel c = { moved with
             ramp := x, profile := some { pr with issued := j }, stepDue := some (ch.table.interval x) })
            ∧ t.job c = s.job c ∧ t.chain (motionChain c) = s.chain (motionChain c) ∧ kept t)
        ∧ (j = pr.planned → Completes (.step c) s fun t =>
          t.channel c = { moved with
              ramp := 0, profile := none, stepDue := none
              state := if a = .off ∨ (a = .timedHold ∧ ch.table.holdMs = 0) then .off else .holding
              holdTimer := if a = .timedHold ∧ ch.table.holdMs ≠ 0 then some (ch.table.holdMs * 1000) else none }
            ∧ t.job c = none ∧ kept t
            ∧ (if ph = .search then EndsWith (motionChain c) r .failed .noEdge s t
               else EndsWith (motionChain c) r .done .none s t))))
    ∧ (∀ (s : State) (r : Taken) (j : ScanJob) (pr : Profile), plain s → s.print.work = none → s.motion.jobD = none →
        s.motion.jobP = none → s.scan.work = some (.page j) → (s.chain .scan).taken = some r → r.stage = .working →
        (let d := s.motion.d
         let k := pr.issued + 1
         let x := if k ≤ 1 ∨ pr.planned ≤ k then 0 else min (min (d.ramp + 1) pr.top) (pr.planned - k - 1)
         let stepped := { j with docSteps := j.docSteps + 1 }
         let moved := { d with
           phase := d.phase + BitVec.ofNat 3 d.table.stride, position := d.position + 1, lastStep := some s.now }
         let going := { moved with
           ramp := x, profile := some { pr with issued := k }
           stepDue := some (max (d.table.interval x) (d.floor.getD 0)) }
         let resting := { moved with state := .holding, ramp := 0, profile := none, stepDue := none, holdTimer := none }
         let kept := fun (t : State) => keptMemory s t ∧ keptHost s t ∧ keptPower s t ∧ t.store = s.store
           ∧ t.motion.p = s.motion.p ∧ t.print = s.print ∧ t.modem = s.modem ∧ ∀ e, e ≠ .scan → t.chain e = s.chain e
         let goesOn := fun (j' : ScanJob) (d' : Channel) => Completes (.step .d) s fun t =>
           t.scan = { s.scan with work := some (.page j') } ∧ t.motion.d = d' ∧ t.chains = s.chains ∧ kept t
         d.owner = .scan → d.state = .stepping ∨ d.state = .stopping → d.profile = some pr → pr.forward = true →
          d.stepDue = some 0 →
          (j.phase = .feed → k < pr.planned → margin j.request.spl (d.ramp + 1) ≤ s.store.room → goesOn stepped going)
          ∧ (j.phase = .feed → k = pr.planned → j.created = false → Completes (.step .d) s fun t =>
              EndsWith .scan r .failed .misfeed s t ∧ t.scan.work = none ∧ t.motion.d.owner = .none
                ∧ t.motion.d.floor = none ∧ t.motion.d.position = d.position + 1
                ∧ (s.scan.lamp = .on → 0 < s.scan.tables.geometry.lingerS → t.scan.lamp = .linger
                    ∧ t.scan.lingerTimer = some (s.scan.tables.geometry.lingerS * 1000000)) ∧ kept t)
          ∧ (j.phase = .leadIn → k < pr.planned → margin j.request.spl (d.ramp + 1) ≤ s.store.room →
              (j.leadInDone + 1 < j.request.leadIn → goesOn { stepped with leadInDone := j.leadInDone + 1 } going)
              ∧ (j.request.leadIn ≤ j.leadInDone + 1 → j.uncovered = false → margin j.request.spl x ≤ s.store.room →
                  Completes (.step .d) s fun t =>
                    t.scan = { s.scan with
                        captureRef := d.position + 1
                        work := some (.page { stepped with leadInDone := j.leadInDone + 1, phase := .capture }) }
                      ∧ t.motion.d = going ∧ t.chains = s.chains ∧ kept t))
          ∧ (j.phase = .capture → k < pr.planned → margin j.request.spl (d.ramp + 1) ≤ s.store.room →
              margin j.request.spl x ≤ s.store.room → goesOn stepped going)
          ∧ (j.phase = .capture → k = pr.planned → s.store.room < margin j.request.spl j.top → 0 < s.scan.bandLimit →
              Completes (.step .d) s fun t =>
                t.scan = { s.scan with
                    bandWait := some (s.scan.bandLimit * 100000)
                    work := some (.page { stepped with phase := .paused, pausedFromTrail := false, pauses := j.pauses + 1 }) }
                  ∧ t.motion.d = resting ∧ t.chains = s.chains ∧ kept t)
          ∧ (j.phase = .runDown ∨ j.phase = .eject → k = pr.planned → s.scan.buffers ≠ [] →
              goesOn { stepped with phase := .closing } resting)
          ∧ (j.phase = .runDown ∨ j.phase = .eject → k < pr.planned → goesOn stepped going)))
    ∧ (∀ (s : State) (e : ChannelId), (s.channel e).stepDue ≠ some 0 → exec (.step e) s = .next s)
    ∧ (∀ (s : State) (e : ChannelId), (s.channel e).state = .off ∨ (s.channel e).state = .holding →
        exec (.step e) s = .next s)

/-- On a moving channel that has issued step j with index x, a stop request fixes the planned count at j for x = 0,
with no step due, and at j + x + 1 for x above 0, STOPPING; it never lengthens a profile with x at most n − j − 1;
under STOPPING after another stop request, with the planned count j + x + 1, it gives the same count again, for x = 0
and one step left too, which is the model's choice between R24's bullets and its later sentence (log entry 48); a run
whose end an edge set past the stopping steps, or an eject set, it shortens to j + D(x) in STOPPING too; each
following step takes the index one down, to 0 at rest; on a channel at rest it has no effect. -/
def Obligations.StopRequestLaw : Prop :=
  (∀ (c : Channel) (pr : Profile), c.profile = some pr → (c.state = .stepping ∨ c.state = .stopping) →
      (c.state = .stopping → pr.planned = pr.issued + c.ramp + 1 → pr.cuttable = false → c.stopRequest = c)
        ∧ (c.ramp = 0 → c.state = .stepping ∨ pr.planned ≠ pr.issued + 1 ∨ pr.cuttable = true →
          c.stopRequest.profile = some { pr with planned := pr.issued, cuttable := false } ∧ c.stopRequest.stepDue = none
          ∧ c.stopRequest.resting = true)
        ∧ (0 < c.ramp → c.stopRequest
            = { c with state := .stopping, profile := some { pr with planned := pr.issued + c.ramp + 1, cuttable := false } }
          ∧ c.stopRequest.stopRequest = c.stopRequest)
        ∧ (c.ramp + pr.issued + 1 ≤ pr.planned ∨ (c.ramp = 0 ∧ pr.issued = pr.planned) →
            ∃ q, c.stopRequest.profile = some q ∧ q.planned ≤ pr.planned))
    ∧ (∀ (now : Nat) (w : Bool) (c : Channel) (pr : Profile), c.profile = some pr → 1 ≤ pr.issued → 0 < c.ramp →
        c.ramp ≤ pr.top → pr.planned = pr.issued + c.ramp + 1 →
        (c.issue now w).ramp = c.ramp - 1
          ∧ (c.issue now w).profile = some { pr with issued := pr.issued + 1 }
          ∧ pr.planned = (pr.issued + 1) + (c.ramp - 1) + 1)
    ∧ (∀ c : Channel, (c.state = .off ∨ c.state = .holding) → c.stopRequest = c)
    ∧ (∀ x, stopSteps x = if x = 0 then 0 else x + 1)

/-- With the engine RUNNING and every unit waiting for an event, the expiry of a HOLDING channel's hold timer makes it
OFF with its owner, phase and position as they are, and posts the state. A raw level seen on a sensor pin after the
boot strap was sampled ends the count where it is the accepted level, keeps it where the raw level is the same as
before, and starts it at 0 otherwise; the accepted level stays. Before the strap is sampled it is accepted at once,
which is the model's choice (log entry 2). Nothing else changes. A hold timer not at 0 does not expire (log entry 7).
-/
def Obligations.HoldTimersAndPins : Prop :=
  (∀ (s : State) (c : ChannelId), atRest s → s.regs.engine = .running → (s.channel c).state = .holding →
      (s.channel c).holdTimer = some 0 → exec (.holdTimerExpiry c) s
        = .next (rested (asking [areaPost s (171 + match c with | .d => 0 | .p => 1) [0] none]
            (s.updChannel c fun ch => { ch with state := .off, holdTimer := none }))))
    ∧ (∀ (s : State) (c : ChannelId), atRest s → (s.channel c).holdTimer ≠ some 0 →
        exec (.holdTimerExpiry c) s = .next (rested s))
    ∧ (∀ (s : State) (n : Sensor) (level : Bool),
        (s.boot.state ≠ .awaitStrap → exec (.sensorRawChange n level) s
            = .next (s.updSensor n fun c => { c with
                raw := level
                count := if level = c.accepted then none else if level = c.raw then c.count else some 0 }))
        ∧ (s.boot.state = .awaitStrap → exec (.sensorRawChange n level) s
            = .next (s.updSensor n fun c => { c with raw := level, accepted := level, count := none })))

/-- With the engine RUNNING and nothing waiting elsewhere, at the acceptance of a raw level that has differed for the
debounce time the accepted level changes, the levels are posted and SENSOR follows the post if the sensor's bit is in
the note mask. The target level of a search fixes its end at the greater of the after-edge steps and D(x), STOPPING,
in a search whose cut decelerates too (log entry 40), or with none left ends it DONE. DOC-READ covered in FEED enters
LEAD-IN with the run count ahead; uncovered it marks LEAD-IN, and turns CAPTURE into TRAIL. COVER-OPEN becoming OPEN
makes both channels OFF without a step, phase, position, ramp index and owner kept, and lamp and supply OFF; a MOVE or
search in its profile ends FAILED COVER-OPEN; a SCAN PAGE in CAPTURE goes to CLOSING with that outcome and cause; a
PRINT PAGE from LINES that owns channel P ends FAILED COVER-OPEN. A raw level that is the accepted one, or has not
differed so long, changes nothing, which is the model's reading (log entry 7). That bits the tables do not name are
written 0 is the model's choice (log entry 65). -/
def Obligations.SensorAccepts : Prop :=
  (∀ (s : State) (n : Sensor), calm s → s.regs.engine = .running →
    (let u := s.updSensor n fun c => { c with accepted := c.raw, posted := c.raw, count := none }
     let levels := areaPost s 162 (be8 (levelBits u SensorCell.posted))
       (if s.motion.noteMask.getLsbD (sensorIndex n) then some .sensor else none)
     ((s.sensor n).raw = (s.sensor n).accepted ∨ ¬ differsLong n s → exec (.sensorAccept n) s = .next s)
      ∧ ((s.sensor n).raw ≠ (s.sensor n).accepted → differsLong n s → (n ≠ .coverOpen ∨ (s.sensor n).raw = false) →
          exec (.sensorAccept n) s = .next (rested (asking [levels] u)))
      ∧ ((s.sensor n).raw ≠ (s.sensor n).accepted → differsLong n s → n = .coverOpen → (s.sensor n).raw = true →
          Completes (.sensorAccept n) s fun t =>
            (∀ c, t.channel c = { s.channel c with state := .off, holdTimer := none, profile := none, stepDue := none })
              ∧ t.scan = { s.scan with lamp := .off, warmTimer := none, lingerTimer := none, lineTimer := none }
              ∧ t.print.supply = .off ∧ t.print.convTimer = none ∧ t.print.settleTimer = none ∧ t.print.lingerTimer = none
              ∧ t.print.tempCode = s.print.tempCode ∧ t.level .coverOpen = true ∧ levels ∈ t.dram.chain
              ∧ t.chains = s.chains ∧ t.store = s.store ∧ t.modem = s.modem ∧ keptMemory s t ∧ keptHost s t ∧ keptPower s t)))
    ∧ (∀ (s : State) (c : ChannelId) (r : Taken) (e : EdgeRequest) (pr : Profile), plain s → s.regs.engine = .running →
        s.scan.work = none → s.print.work = none → (∀ f, f ≠ c → s.job f = none) →
        (s.chain (motionChain c)).taken = some r → r.stage = .working →
        s.job c = some { request := .edge e, phase := .search } → (s.channel c).owner = .chain →
        (s.channel c).state = .stepping ∨ (s.channel c).state = .stopping → (s.channel c).profile = some pr →
        1 ≤ pr.issued → (s.sensor e.sensor).raw = e.target → (s.sensor e.sensor).accepted ≠ e.target →
        differsLong e.sensor s →
        e.sensor ≠ .coverOpen →
        (let x := (s.channel c).ramp
         let left := max e.after (if x = 0 then 0 else x + 1)
         (0 < left → Completes (.sensorAccept e.sensor) s fun t =>
            t.channel c = { s.channel c with
                state := .stopping
                profile := some { pr with planned := pr.issued + left, cuttable := decide ((if x = 0 then 0 else x + 1) < e.after) } }
              ∧ t.job c = some { request := .edge e, phase := .afterEdge pr.issued } ∧ t.level e.sensor = e.target
              ∧ (∀ f, f ≠ c → t.channel f = s.channel f) ∧ t.chains = s.chains ∧ t.store = s.store ∧ t.scan = s.scan
              ∧ t.print = s.print ∧ t.modem = s.modem ∧ keptMemory s t ∧ keptHost s t ∧ keptPower s t)
          ∧ (left = 0 → (s.chain (motionChain c)).cutPending = false → Completes (.sensorAccept e.sensor) s fun t =>
            EndsWith (motionChain c) r .done .none s t ∧ t.job c = none ∧ (t.channel c).position = (s.channel c).position
              ∧ ((t.channel c).state = .off ∨ (t.channel c).state = .holding) ∧ (t.channel c).profile = none
              ∧ keptBut (motionChain c) s t ∧ t.store = s.store ∧ t.scan = s.scan ∧ t.print = s.print)))
    ∧ (∀ (s : State) (c : ChannelId) (r : Taken) (q : MotionRequest) (ph : MotionPhase), plain s →
        s.regs.engine = .running → s.scan.work = none → s.print.work = none → (∀ f, f ≠ c → s.job f = none) →
        (s.chain (motionChain c)).taken = some r → r.stage = .working → s.job c = some { request := q, phase := ph } →
        ((∃ n fwd top a, q = .move n fwd top a ∧ ph = .running)
          ∨ (∃ e, q = .edge e ∧ (ph = .search ∨ ∃ b, ph = .afterEdge b))) →
        (s.sensor .coverOpen).raw = true → (s.sensor .coverOpen).accepted = false → differsLong .coverOpen s →
        Completes (.sensorAccept .coverOpen) s fun t =>
          EndsWith (motionChain c) r .failed .coverOpen s t ∧ t.job c = none
            ∧ (∀ f, t.channel f = { s.channel f with state := .off, holdTimer := none, profile := none, stepDue := none })
            ∧ t.scan.lamp = .off ∧ t.print.supply = .off ∧ t.level .coverOpen = true ∧ t.store = s.store
            ∧ t.modem = s.modem ∧ keptBut (motionChain c) s t)
    ∧ (∀ (s : State) (j : ScanJob), plain s → s.regs.engine = .running → s.print.work = none → s.motion.jobD = none →
        s.motion.jobP = none → s.scan.work = some (.page j) → s.motion.d.owner = .scan →
        (let d := s.motion.d
         let kept := fun (t : State) => keptMemory s t ∧ keptHost s t ∧ keptPower s t ∧ t.store = s.store
           ∧ t.motion.p.position = s.motion.p.position ∧ t.modem = s.modem ∧ t.chains = s.chains
         ((s.sensor .coverOpen).raw = true → (s.sensor .coverOpen).accepted = false → differsLong .coverOpen s → j.phase = .capture →
            s.scan.buffers ≠ [] → Completes (.sensorAccept .coverOpen) s fun t =>
              t.scan = { s.scan with
                  lamp := .off, warmTimer := none, lingerTimer := none, lineTimer := none, bandWait := none
                  work := some (.page { j with
                    phase := .closing, captureStopped := true, outcome := some (.failed, .coverOpen), cause := .coverOpen }) }
                ∧ t.motion.d = { d with state := .off, holdTimer := none, profile := none, stepDue := none }
                ∧ t.print.supply = .off ∧ kept t)
          ∧ (∀ pr, (s.sensor .docRead).raw = true → (s.sensor .docRead).accepted = false → differsLong .docRead s → j.phase = .feed →
              d.profile = some pr → 1 ≤ pr.issued → 0 < j.request.leadIn → Completes (.sensorAccept .docRead) s fun t =>
                t.scan = { s.scan with work := some (.page { j with phase := .leadIn }) }
                  ∧ t.motion.d = { d with profile := some { pr with planned := pr.issued + (j.request.leadIn - j.leadInDone)
                      + j.request.spl * (j.request.lineLimit - j.captured + 1) + j.request.eject } }
                  ∧ t.level .docRead = true ∧ t.print = s.print ∧ kept t)
          ∧ (∀ pr, (s.sensor .docRead).raw = false → (s.sensor .docRead).accepted = true → differsLong .docRead s → d.profile = some pr →
              1 ≤ pr.issued →
              (j.phase = .leadIn → Completes (.sensorAccept .docRead) s fun t =>
                  t.scan = { s.scan with work := some (.page { j with uncovered := true }) } ∧ t.motion.d = d
                    ∧ t.level .docRead = false ∧ t.print = s.print ∧ kept t)
                ∧ (j.phase = .capture → 0 < j.request.trail → margin j.request.spl d.ramp ≤ s.store.room →
                  Completes (.sensorAccept .docRead) s fun t =>
                    t.scan = { s.scan with work := some (.page { j with phase := .trail }) } ∧ t.motion.d = d
                      ∧ t.level .docRead = false ∧ t.print = s.print ∧ kept t))))
    ∧ (∀ (s : State) (r : Taken) (j : PrintJob) (a p n : Nat), plain s → s.regs.engine = .running → s.scan.work = none →
        s.motion.jobD = none → s.motion.jobP = none → s.print.work = some j → j.phase ≠ .waitOwner →
        j.request.source = .lines a p n → (s.chain .print).taken = some r → r.stage = .working →
        (s.sensor .coverOpen).raw = true → (s.sensor .coverOpen).accepted = false → differsLong .coverOpen s →
        Completes (.sensorAccept .coverOpen) s fun t =>
          EndsWith .print r .failed .coverOpen s t ∧ t.print.work = none ∧ t.print.supply = .off ∧ t.print.sequence = none
            ∧ t.print.h1 = s.print.h1 ∧ t.print.h2 = s.print.h2 ∧ t.motion.p.state = .off ∧ t.motion.p.owner = .none
            ∧ t.motion.p.position = s.motion.p.position ∧ keptBut .print s t ∧ t.store = s.store ∧ t.modem = s.modem)

/-- With the engine RUNNING: the end of the warm-up makes the lamp ON and begins a line period; a GRAY CAPTURE in
WARM-UP begins its lines; a SCAN PAGE there makes the document check: DOC-READ covered starts LEAD-IN with the run
count, only DOC-PRESENT covered starts FEED with the feed limit, each waiting out the start-stop interval or the floor
since the last step, neither ends it FAILED NO-DOCUMENT, its channel given up and the lamp in LINGER. While every unit
waits for an event: the end of the settle makes the supply ON, its sample flag clear and a conversion of 1 ms begun,
the record in SUPPLY-SETTLE staying for its sample; the lingers end with lamp or supply OFF, line timing or
conversions stopped. Each new state is posted. A timer not at 0 does not expire: the model's reading (log entry 7). -/
def Obligations.LampAndSupplyTimers : Prop :=
  (∀ s : State, s.regs.engine = .running → plain s → s.print.work = none → s.motion.jobD = none → s.motion.jobP = none →
      s.scan.lamp = .warming → s.scan.warmTimer = some 0 →
      (let lit := { s.scan with
         lamp := .on, warmTimer := none, lingerTimer := none, lineTimer := some s.scan.tables.geometry.period }
       let d := s.motion.d
       let kept := fun (t : State) => keptBut .scan s t ∧ t.store = s.store ∧ t.print = s.print ∧ t.modem = s.modem
         ∧ t.motion.p = s.motion.p ∧ areaPost s 169 [2] none ∈ t.dram.chain
       let starts := fun n (j : ScanJob) => ∀ t0, d.lastStep = some t0 →
         s.now < t0 + max (d.table.ramp.getD 0 0) (d.floor.getD 0) → Completes .lampWarmupExpiry s fun t =>
           t.scan = { lit with work := some (.page j) } ∧ t.chains = s.chains
             ∧ t.motion.d = { d with
                 state := .stepping, ramp := 0, holdTimer := none
                 profile := some { planned := n, issued := 0, forward := true, top := min j.top (d.table.ramp.length - 1) }
                 stepDue := some (t0 + max (d.table.ramp.getD 0 0) (d.floor.getD 0) - s.now) } ∧ kept t
       (∀ j, s.scan.work = some (.gray j) → j.phase = .warmUp → Completes .lampWarmupExpiry s fun t =>
          t.scan = { lit with work := some (.gray { j with phase := .lines }) } ∧ t.motion = s.motion
            ∧ t.chains = s.chains ∧ kept t)
        ∧ (∀ j r, s.scan.work = some (.page j) → j.phase = .warmUp → d.owner = .scan → (s.chain .scan).taken = some r →
            r.stage = .working →
            (s.level .docRead = true → 0 < j.request.leadIn →
              starts (j.request.leadIn - j.leadInDone + j.request.spl * (j.request.lineLimit - j.captured + 1)
                + j.request.eject) { j with phase := .leadIn })
            ∧ (s.level .docRead = false → s.level .docPresent = true →
              starts j.request.feedLimit { j with phase := .feed })
            ∧ (s.level .docRead = false → s.level .docPresent = false → j.created = false →
                0 < s.scan.tables.geometry.lingerS → Completes .lampWarmupExpiry s fun t =>
                  EndsWith .scan r .failed .noDocument s t ∧ t.scan.work = none ∧ t.scan.lamp = .linger
                    ∧ t.scan.lingerTimer = some (s.scan.tables.geometry.lingerS * 1000000)
                    ∧ t.motion.d.owner = .none ∧ t.motion.d.position = d.position ∧ kept t))))
    ∧ (∀ s : State, s.regs.engine = .running → atRest s →
      (s.scan.lamp = .linger → s.scan.lingerTimer = some 0 → exec .lampLingerExpiry s
        = .next (rested (asking [areaPost s 169 [0] none] { s with scan := { s.scan with
            lamp := .off, warmTimer := none, lingerTimer := none, lineTimer := none } })))
      ∧ (s.print.supply = .settling → s.print.settleTimer = some 0 → exec .supplySettleExpiry s
        = .next (rested (asking [areaPost s 170 [2] none] { s with print := { s.print with
            supply := .on, settleTimer := none, lingerTimer := none, tempFlag := false, convTimer := some 1000 } })))
      ∧ (s.print.supply = .linger → s.print.lingerTimer = some 0 → exec .supplyLingerExpiry s
        = .next (rested (asking [areaPost s 170 [0] none] { s with print := { s.print with
            supply := .off, settleTimer := none, lingerTimer := none, tempFlag := false, convTimer := none } }))))
    ∧ ∀ s : State, (s.scan.warmTimer ≠ some 0 → exec .lampWarmupExpiry s = .next s)
      ∧ (s.scan.lingerTimer ≠ some 0 → exec .lampLingerExpiry s = .next s)
      ∧ (s.print.settleTimer ≠ some 0 → exec .supplySettleExpiry s = .next s)
      ∧ (s.print.lingerTimer ≠ some 0 → exec .supplyLingerExpiry s = .next s)

/-- With no print or motion record and nothing waiting: a boundary, at the end of a line period, restarts it and
without a scan record does nothing else; a GRAY CAPTURE with a free row store keeps the line's values and asks for
their write. A SCAN PAGE in CAPTURE or PAUSED whose advance is at least spl and which has a free line buffer puts the
binarized line into it, asks for its write at its slot, takes the slot from the page store and moves the reference by
spl: in a band that is FILLING one band entry is posted; the first capture creates the page, takes the head band and
posts band, page and free count, POOL-LOW with the count where it crosses the low-water mark; a band's 16th line hands
over the progress. Too little room after it makes the stop request; the last line of the limit ends capture LENGTH
into EJECT. Both buffers occupied ends it OVERRUN. No byte of DRAM changes. Before the period's end, or without line
timing, there is no boundary: the model's reading (log entry 7). That bits the tables do not name are written 0 is the
model's choice (log entry 65). -/
def Obligations.LineBoundaries : Prop :=
  (∀ (s : State) (samples : List Byte), atRest s → s.print.work = none → s.motion.jobD = none →
    s.motion.jobP = none → s.scan.lineTimer = some 0 →
    (let g := s.scan.tables.geometry
     let d := s.motion.d
     let kept := fun (t : State) => keptMemory s t ∧ keptHost s t ∧ keptPower s t ∧ t.print = s.print ∧ t.modem = s.modem
       ∧ t.motion.p = s.motion.p ∧ t.scan.lineTimer = some g.period ∧ t.scan.lamp = s.scan.lamp
       ∧ t.scan.tables = s.scan.tables ∧ t.chains = s.chains
     let enough := fun (j : ScanJob) => j.captureStopped = false ∧ (j.request.spl : Int) ≤ (d.position - s.scan.captureRef).toInt
     let moving := fun pr => (d.state = .stepping ∨ d.state = .stopping) ∧ d.profile = some pr
     (s.scan.work = none → exec (.lineBoundary samples) s
        = .next (rested { s with scan := { s.scan with lineTimer := some g.period } }))
      ∧ (∀ j, s.scan.work = some (.gray j) → j.phase = .lines → s.scan.grayRow = none → j.stored < j.count →
          Completes (.lineBoundary samples) s fun t =>
            t.scan.grayRow = some (grayRowOf g samples)
              ∧ t.dram.scan = s.dram.scan ++ [{ tag := .grayRow, addr := j.addr + 1728 * j.stored
                                                data := .write (grayRowOf g samples), note := none }]
              ∧ t.scan.work = s.scan.work ∧ t.motion = s.motion ∧ t.store = s.store ∧ kept t)
      ∧ (∀ j a, s.scan.work = some (.page j) → enough j → s.scan.buffers.length < 2 →
          s.store.assign j.request.page (pageAtCapture j s) = some a →
          (let line := binarize s.scan.tables j.request j.captured samples
           let counted := { j with captured := j.captured + 1, created := true }
           let took := fun (t : State) => t.scan.buffers = s.scan.buffers ++ [line]
             ∧ t.dram.scan = s.dram.scan ++ [{ tag := .lineBuffer, addr := a.store.slotAddr a.band a.slot
                                               data := .write (lineBytes line), note := none }]
             ∧ t.store = { a.store with room := a.store.roomNow }
             ∧ t.scan.captureRef = s.scan.captureRef + BitVec.ofNat 32 j.request.spl ∧ kept t
           (a.full = false → j.captured + 1 < j.request.lineLimit →
              (j.phase = .capture ∧ margin j.request.spl d.ramp ≤ a.store.roomNow)
                ∨ (j.phase = .paused ∧ j.pausedFromTrail = false ∧ a.store.roomNow < margin j.request.spl j.top) →
              Completes (.lineBoundary samples) s fun t =>
                took t ∧ t.scan.work = some (.page counted) ∧ t.motion = s.motion
                  ∧ (∀ b, s.regs.engine = .running → j.created = true →
                      (s.store.page j.request.page).last = some b → (s.store.band b).state = .filling →
                      t.dram.chain = s.dram.chain ++ [areaPost s (544 + 4 * b) (bandEntry (t.store.band b)) none])
                  ∧ (∀ h, s.regs.engine = .running → j.created = false → j.request.page < s.store.pages.length →
                      (s.store.page j.request.page).state = .empty → s.store.head = some h → 0 < s.store.count →
                      t.dram.chain = s.dram.chain ++
                        [areaPost s (544 + 4 * h) (bandEntry (t.store.band h)) none,
                         areaPost s (288 + 16 * j.request.page) (pageEntry (t.store.page j.request.page)) none,
                         areaPost s 166 (be16 t.store.count)
                           (if s.store.lowMark ≤ s.store.count ∧ t.store.count < s.store.lowMark then some .poolLow
                            else none)]))
            ∧ (∀ r, a.full = true → j.captured + 1 < j.request.lineLimit → j.phase = .capture →
                margin j.request.spl d.ramp ≤ a.store.roomNow → (s.chain .scan).taken = some r →
                (∀ x ∈ s.dram.chain, x.tag ≠ .progress .scan) → Completes (.lineBoundary samples) s fun t =>
                  took t ∧ t.scan.work = some (.page counted) ∧ t.motion = s.motion
                    ∧ { tag := .progress .scan, addr := r.addr + 26, data := .write (be16 (j.captured + 1)), note := none }
                      ∈ t.dram.chain)
            ∧ (∀ pr, a.full = false → j.captured + 1 < j.request.lineLimit → j.phase = .capture → moving pr →
                1 ≤ pr.issued → 0 < d.ramp → a.store.roomNow < margin j.request.spl d.ramp →
                Completes (.lineBoundary samples) s fun t =>
                  took t ∧ t.scan.work = some (.page counted)
                    ∧ t.motion.d = { d with
                        state := .stopping, profile := some { pr with planned := pr.issued + d.ramp + 1, cuttable := false } })
            ∧ (∀ pr, a.full = false → j.request.lineLimit ≤ j.captured + 1 → j.phase = .capture → moving pr →
                1 ≤ pr.issued → 0 < j.request.eject → Completes (.lineBoundary samples) s fun t =>
                  took t ∧ t.scan.work = some (.page { counted with
                        phase := .eject, captureStopped := true, cause := .length, outcome := some (.done, .none) })
                    ∧ t.motion.d = { d with
                        state := .stopping
                        profile := some { pr with
                          planned := pr.issued + max j.request.eject (if d.ramp = 0 then 0 else d.ramp + 1), cuttable := true } })))
      ∧ (∀ j pr, s.scan.work = some (.page j) → enough j → j.phase = .capture → 2 ≤ s.scan.buffers.length → moving pr →
          1 ≤ pr.issued → 0 < d.ramp → Completes (.lineBoundary samples) s fun t =>
            t.scan.work = some (.page { j with phase := .runDown, captureStopped := true, cause := .overrun
                                               outcome := some (.failed, .overrun) })
              ∧ t.motion.d = { d with state := .stopping, profile := some { pr with planned := pr.issued + d.ramp + 1, cuttable := false } }
              ∧ t.scan.buffers = s.scan.buffers ∧ t.scan.captureRef = s.scan.captureRef ∧ t.store = s.store ∧ kept t)
      ∧ (∀ j, s.scan.work = some (.page j) → (j.request.spl : Int) > (d.position - s.scan.captureRef).toInt →
          exec (.lineBoundary samples) s = .next (rested { s with scan := { s.scan with lineTimer := some g.period } }))))
    ∧ ∀ (s : State) (samples : List Byte), s.scan.lineTimer ≠ some 0 → exec (.lineBoundary samples) s = .next s

/-- With no print or motion record: the write of a line buffer lands, the oldest buffer is FREE, the page's lines
written rises by 1 and its entry is posted; in CLOSING the last buffer's write fixes the page, COMPLETE without FILL
and with its end cause, its FILLING band FULL, and ends the record with its outcome and count, channel and lamp given
up. The write of a gray row lands and is counted, and the last one ends the record DONE with its count. The expiry of
the band wait ends capture MEMORY-FULL, to end FAILED: at once where both buffers are FREE, else in CLOSING; the
channel stays at rest. A band wait not at 0 does not expire: the model's reading (log entry 7). That bits the tables
do not name are written 0 is the model's choice (log entry 65). -/
def Obligations.ScanWritesAndWaits : Prop :=
  ∀ s : State, atRest s → s.print.work = none → s.motion.jobD = none → s.motion.jobP = none →
    (let kept := fun (t : State) => t.dram.fitted = s.dram.fitted ∧ t.dram.installed = s.dram.installed ∧ keptHost s t
       ∧ keptPower s t ∧ t.print = s.print ∧ t.modem = s.modem ∧ t.motion.p = s.motion.p
     let wrote := fun (addr : Nat) (bytes : List Byte) (rest : List Xfer) (t : State) =>
       t.dram.cells = (writeBytes s addr bytes).dram.cells ∧ t.dram.scan = rest ∧ kept t
     let fixed := fun (j : ScanJob) (lines : Nat) (t : State) =>
       t.store.page j.request.page = { s.store.page j.request.page with
           lines := lines, state := .complete, fill := false, cause := j.cause }
         ∧ (∀ i, i ≠ j.request.page → t.store.page i = s.store.page i) ∧ t.store.count = s.store.count
         ∧ (∀ b, (s.store.page j.request.page).last = some b → (s.store.band b).state = .filling →
             b < s.store.bands.length → t.store.band b = { s.store.band b with state := .full })
     let ends := fun (j : ScanJob) (r : Taken) (o : RecordOutcome) (why : Reason) (t : State) =>
       EndsWith .scan r o why s t ∧ t.scan.work = none ∧ t.scan.bandWait = none ∧ t.motion.d.owner = .none
         ∧ t.motion.d.floor = none ∧ t.motion.d.position = s.motion.d.position
         ∧ { tag := .result .scan, addr := r.addr + 8, data := .write (be32 j.captured), note := none } ∈ t.dram.chain
         ∧ (s.scan.lamp = .on → 0 < s.scan.tables.geometry.lingerS → t.scan.lamp = .linger)
     (∀ j addr bytes rest, s.scan.work = some (.page j) → j.request.page < s.store.pages.length →
        lastWrite .scan .lineBuffer addr bytes rest s →
        (j.phase = .capture → Completes .lineBufferWriteComplete s fun t =>
          t.scan = { s.scan with buffers := s.scan.buffers.drop 1 }
            ∧ t.store.page j.request.page
                = { s.store.page j.request.page with lines := (s.store.page j.request.page).lines + 1 }
            ∧ (∀ i, i ≠ j.request.page → t.store.page i = s.store.page i) ∧ t.store.bands = s.store.bands
            ∧ t.store.count = s.store.count ∧ t.motion = s.motion ∧ t.chains = s.chains
            ∧ (s.regs.engine = .running → t.dram.chain = s.dram.chain
                ++ [areaPost s (288 + 16 * j.request.page) (pageEntry (t.store.page j.request.page)) none])
            ∧ wrote addr bytes rest t)
          ∧ (∀ r o why, j.phase = .closing → s.scan.buffers.length = 1 → j.created = true → j.outcome = some (o, why) →
            ((s.store.page j.request.page).print || (s.store.page j.request.page).keep) = true →
            (s.chain .scan).taken = some r → r.stage = .working → Completes .lineBufferWriteComplete s fun t =>
              fixed j ((s.store.page j.request.page).lines + 1) t ∧ ends j r o why t ∧ t.scan.buffers = []
                ∧ wrote addr bytes rest t))
      ∧ (∀ j addr bytes rest, s.scan.work = some (.gray j) → j.phase = .lines → j.outcome = none →
          lastWrite .scan .grayRow addr bytes rest s →
          (j.stored + 1 < j.count → Completes .grayRowWriteComplete s fun t =>
              t.scan = { s.scan with grayRow := none, work := some (.gray { j with stored := j.stored + 1 }) }
                ∧ t.motion = s.motion ∧ t.store = s.store ∧ t.chains = s.chains ∧ wrote addr bytes rest t)
            ∧ (∀ r, j.count ≤ j.stored + 1 → (s.chain .scan).taken = some r → r.stage = .working →
              Completes .grayRowWriteComplete s fun t =>
                EndsWith .scan r .done .none s t ∧ t.scan.work = none ∧ t.scan.grayRow = none ∧ t.motion.d.owner = .none
                  ∧ { tag := .result .scan, addr := r.addr + 8, data := .write (be32 (j.stored + 1)), note := none }
                      ∈ t.dram.chain ∧ t.store = s.store ∧ wrote addr bytes rest t))
      ∧ (∀ j, s.scan.work = some (.page j) → j.phase = .paused → s.scan.bandWait = some 0 →
          (s.scan.buffers ≠ [] → Completes .bandWaitExpiry s fun t =>
            t.scan = { s.scan with
                bandWait := none
                work := some (.page { j with phase := .closing, captureStopped := true, cause := .memoryFull
                                             outcome := some (.failed, .memoryFull) }) }
              ∧ t.motion = s.motion ∧ t.store = s.store ∧ t.chains = s.chains ∧ t.dram.cells = s.dram.cells ∧ kept t)
          ∧ (∀ r, s.scan.buffers = [] → j.created = true → j.request.page < s.store.pages.length →
            ((s.store.page j.request.page).print || (s.store.page j.request.page).keep) = true →
            (s.chain .scan).taken = some r → r.stage = .working → Completes .bandWaitExpiry s fun t =>
              fixed { j with cause := .memoryFull } (s.store.page j.request.page).lines t
                ∧ ends j r .failed .memoryFull t ∧ t.dram.cells = s.dram.cells ∧ kept t))
      ∧ (s.scan.bandWait ≠ some 0 → exec .bandWaitExpiry s = .next s))

/-- With no scan or motion record: a sample becomes the latest code with its flag set, the next conversion begins, and
a changed code is posted; in SUPPLY-SETTLE with the supply ON it lets the record into TOP-MARGIN, or ends it PAPER-
OUT; in HEAT-WAIT a code above T_resume only counts as the highest. A fetch fills the source store and forms the line,
ORed with its stamp line, the accumulator advancing by the scale. A due line not formed waits for its fetch, or in
LINE-WAIT for its source; formed, it ends the record PAPER-OUT when the paper is gone, enters HEAT-WAIT at a code at
or above T_stop, and else starts: the history is white after a gap longer than the cool time, channel P makes one
step, at once where the start-stop interval has passed since the last, at which the line becomes the print line, the
next fetch begins and the first kind's load; a line of which no kind is run completes at once. An event whose time has
not come changes nothing: the model's reading (log entry 7). -/
def Obligations.SamplesFetchesLines : Prop :=
  (∀ s : State, atRest s → s.scan.work = none → s.motion.jobD = none → s.motion.jobP = none → s.regs.engine = .running →
    (let p := s.motion.p
     let start := p.table.ramp.getD 0 0
     let kept := fun (t : State) => keptBut .print s t ∧ t.store = s.store ∧ t.scan = s.scan ∧ t.modem = s.modem
       ∧ t.motion.d = s.motion.d
     let posted := fun (code : Byte) => if code.toNat = s.print.tempCode then [] else [areaPost s 165 [code] none]
     let sampled := fun (code : Byte) => { s.print with tempCode := code.toNat, tempFlag := true, convTimer := some 1000 }
     (∀ code : Byte, s.print.convTimer = some 0 →
        (∀ j, s.print.work = some j → j.phase ≠ .heatWait ∧ (j.phase = .supplySettle → s.print.supply ≠ .on)) →
        exec (.tempSampleComplete code) s = .next (rested (asking (posted code) { s with print := sampled code })))
      ∧ (∀ (code : Byte) j r a q n, s.print.convTimer = some 0 → s.print.work = some j → j.phase = .supplySettle →
          s.print.supply = .on → j.request.source = .lines a q n → (s.chain .print).taken = some r → r.stage = .working →
          (s.level .paperPresent = false → Completes (.tempSampleComplete code) s fun t =>
              EndsWith .print r .failed .paperOut s t ∧ t.print.work = none ∧ t.motion.p.owner = .none
                ∧ t.motion.p.position = p.position ∧ t.print.tempCode = code.toNat ∧ kept t)
            ∧ (∀ t0, s.level .paperPresent = true → 0 < j.request.topMargin → p.lastStep = some t0 → p.floor = none →
                s.now < t0 + start → Completes (.tempSampleComplete code) s fun t =>
                  t.print = { sampled code with work := some { j with phase := .topMargin } }
                    ∧ t.motion.p = { p with
                        state := .stepping, ramp := 0, holdTimer := none, stepDue := some (t0 + start - s.now)
                        profile := some { planned := j.request.topMargin, issued := 0, forward := true
                                          top := min j.top (p.table.ramp.length - 1) } } ∧ t.chains = s.chains ∧ kept t)
            ∧ (s.level .paperPresent = true → j.request.topMargin = 0 → p.state = .off → s.print.lineStore = none →
                s.print.fetch = .reading true false → p.stepDue = none → j.lineActive = false →
                Completes (.tempSampleComplete code) s fun t =>
                  t.print = { sampled code with work := some { j with phase := .printing, due := true } }
                    ∧ t.motion.p = { p with
                        state := .holding, ramp := 0, profile := none, holdTimer := none } ∧ t.chains = s.chains ∧ kept t))
      ∧ (∀ (code : Byte) j, s.print.convTimer = some 0 → s.print.work = some j → j.phase = .heatWait →
          s.print.heat.tResume < code.toNat → exec (.tempSampleComplete code) s = .next (rested (asking (posted code)
            { s with print := { sampled code with work := some { j with highest := max j.highest code.toNat } } })))
      ∧ (∀ j bytes rest, s.print.work = some j → j.phase ≠ .printing → j.phase ≠ .lineWait →
          (s.print.fetch = .reading true false → lastRead .print .source bytes rest s → exec .fetchComplete s
            = .next (rested (let u := served .print rest s
               { u with print := { s.print with
                   sourceStore := some (s.print.accProduct / 256, lineOfBytes bytes), lineStore := some (lineOfBytes bytes)
                   fetch := .idle, accLine := s.print.accLine + 1
                   accProduct := s.print.accProduct + j.request.scale } })))
          ∧ (∀ m l, s.print.fetch = .reading false true → s.print.sourceStore = some (m, l) →
              lastRead .print .stamp bytes rest s → exec .fetchComplete s
            = .next (rested (let u := served .print rest s
               { u with print := { s.print with
                   lineStore := some (l ||| lineOfBytes bytes), fetch := .idle, accLine := s.print.accLine + 1
                   accProduct := s.print.accProduct + j.request.scale } }))))
      ∧ (∀ j, s.print.work = some j → j.phase = .printing → j.due = false → j.lineActive = false →
          s.print.dueTimer = some 0 → p.stepDue = none → p.owner = .print →
          (s.print.lineStore = none → s.print.fetch = .reading true false → Completes .lineDue s fun t =>
              t.print = { s.print with dueTimer := none, work := some { j with due := true } } ∧ t.motion = s.motion
                ∧ t.chains = s.chains ∧ kept t)
            ∧ (s.print.lineStore = none → s.print.fetch = .waiting → Completes .lineDue s fun t =>
              t.print = { s.print with
                  dueTimer := none, work := some { j with due := true, phase := .lineWait, waits := j.waits + 1 } }
                ∧ t.motion = s.motion ∧ t.chains = s.chains ∧ kept t)
            ∧ (∀ l r a q n, s.print.lineStore = some l → s.print.fetch = .idle → (s.chain .print).cutPending = false →
                j.request.source = .lines a q n → j.request.stamp = none →
                (let hot := max j.highest s.print.tempCode
                 let gap := ∃ d, j.lastDone = some d ∧ s.print.heat.coolMs * 1000 < s.now - d
                 let wait := s.level .paperPresent = true ∧ s.print.tempCode < s.print.heat.tStop ∧ p.floor = none
                 let begun := { j with due := false, lineActive := true, highest := hot }
                 let stepped := { p with
                   phase := p.phase + BitVec.ofNat 3 p.table.stride, position := p.position + 1, lastStep := some s.now
                   state := .holding, ramp := 0, profile := none, stepDue := none, holdTimer := none }
                 let next := s.print.accProduct / 256
                 let fetches := fun (t : State) => t.print.fetch = .reading true false ∧ t.print.lineStore = none
                   ∧ t.dram.print = s.dram.print ++ [{ tag := .source, addr := a + q * next, data := .read 216 [], note := none }]
                 let due := (p.lastStep = none ∨ ∃ t0, p.lastStep = some t0 ∧ t0 + start ≤ s.now) ∧ next < n
                   ∧ ∀ m l', s.print.sourceStore = some (m, l') → m ≠ next
                 (s.level .paperPresent = false → (s.chain .print).taken = some r → r.stage = .working →
                    Completes .lineDue s fun t => EndsWith .print r .failed .paperOut s t ∧ t.print.work = none
                      ∧ t.motion.p.owner = .none ∧ t.motion.p.position = p.position ∧ kept t)
                  ∧ (s.level .paperPresent = true → s.print.heat.tStop ≤ s.print.tempCode → Completes .lineDue s fun t =>
                    t.print = { s.print with
                        dueTimer := none, overheat := some (s.print.heat.overheatS * 1000000)
                        work := some { j with due := true, phase := .heatWait, waits := j.waits + 1, highest := hot } }
                      ∧ t.motion = s.motion ∧ t.chains = s.chains ∧ kept t)
                  ∧ (∀ t0, wait → p.lastStep = some t0 → s.now < t0 + start → Completes .lineDue s fun t =>
                      t.print.work = some begun ∧ t.print.lineStore = some l
                        ∧ (gap → t.print.h1 = Line.white ∧ t.print.h2 = Line.white)
                        ∧ (¬ gap → t.print.h1 = s.print.h1 ∧ t.print.h2 = s.print.h2)
                        ∧ t.motion.p = { p with
                            state := .stepping, ramp := 0, holdTimer := none, stepDue := some (t0 + start - s.now)
                            profile := some { planned := 1, issued := 0, forward := true, top := 0 } }
                        ∧ t.chains = s.chains ∧ kept t)
                  ∧ (∀ h1 h2, wait → due → (gap → h1 = Line.white ∧ h2 = Line.white) →
                      (¬ gap → h1 = s.print.h1 ∧ h2 = s.print.h2) →
                      (let plan := makePlan s.print.heat s.print.tempCode l h1 h2
                       (∀ kind kinds, plan.kinds = kind :: kinds → Completes .lineDue s fun t =>
                          t.motion.p = stepped ∧ t.print.work = some begun ∧ t.print.printLine = some l
                            ∧ t.print.lineStart = s.now ∧ t.print.h1 = h1 ∧ t.print.h2 = h2 ∧ t.print.dueTimer = none
                            ∧ t.print.sequence = some
                                { plan := plan, todo := kinds, shifting := some kind, loaded := none, firing := none
                                  loadTimer := some (1728 / s.print.heat.clockMHz), left := [], fireTimer := none
                                  pulse := false }
                            ∧ fetches t ∧ t.chains = s.chains ∧ kept t)
                        ∧ (plan.kinds = [] → plan.overLines = 0 → (j.outputLines + 1) % 16 ≠ 0 → Completes .lineDue s fun t =>
                          t.motion.p = stepped ∧ t.print.sequence = none ∧ t.print.h1 = l ∧ t.print.h2 = h1
                            ∧ t.print.lineStart = s.now ∧ t.print.dueTimer = some j.interval
                            ∧ t.print.work = some { begun with
                                lineActive := false, outputLines := j.outputLines + 1, lastDone := some s.now }
                            ∧ fetches t ∧ t.chains = s.chains ∧ kept t))))))))
    ∧ ∀ s : State, (s.print.dueTimer ≠ some 0 → exec .lineDue s = .next s)
      ∧ (s.print.fetch = .idle ∨ s.print.fetch = .waiting → exec .fetchComplete s = .next s)
      ∧ (∀ code, s.print.convTimer ≠ some 0 → s.print.convTimer ≠ none ∨ s.print.lateSample = none → exec (.tempSampleComplete code) s = .next s)

/-- A load's end latches its kind when no energize runs, with a latch pulse: its groups are fired from the first, each
for the kind's duration, and the next kind's load takes 1728 over the head clock; while an energize runs the kind
waits. A group's end fires the next group of the kind, and the last one latches the kind that waits. The last energize
of a line makes H2 the old H1 and H1 the line, counts the line, and times the next line from its start. For a page
without KEEP the line's report returns the first band of a chain once its last line is below the next source line and
the lines written: it becomes FREE at the tail of the free list, and base line rises by its lines. An overheat expiry
in HEAT-WAIT ends the record FAILED OVERHEAT and gives channel P up. An event whose time has not come changes nothing:
the model's reading (log entry 7). -/
def Obligations.EnergizeSequence : Prop :=
  (∀ (s : State) (q : Sequence) (k : HeatKind), s.print.sequence = some q → q.shifting = some k → q.loadTimer = some 0 →
      (let latched := { q with
         firing := some k, left := q.plan.groups.filter fun g => decide (0 < g.dots k)
         fireTimer := some (q.plan.duration k), loaded := none, pulse := true
         shifting := q.todo.head?, todo := q.todo.drop 1
         loadTimer := q.todo.head?.map fun _ => 1728 / s.print.heat.clockMHz }
       (q.firing = none → exec .loadEnd s = .next { s with print := { s.print with sequence := some latched } })
        ∧ (q.firing ≠ none → exec .loadEnd s = .next { s with print := { s.print with
            sequence := some { q with shifting := none, loadTimer := none, loaded := some k } } })))
    ∧ (∀ (s : State) (q : Sequence) (j : PrintJob) (k : HeatKind), plain s →
        s.scan.work = none → s.motion.jobD = none → s.motion.jobP = none → s.print.sequence = some q →
        s.print.work = some j → j.phase = .printing → j.due = false → s.print.fetch = .idle → s.print.lineStore ≠ none →
        s.motion.p.stepDue = none → q.firing = some k → q.fireTimer = some 0 →
        (let kept := fun (t : State) => keptBut .print s t ∧ t.chains = s.chains ∧ t.motion = s.motion ∧ t.scan = s.scan
           ∧ t.modem = s.modem
         let completes := fun (t : State) => t.print = { s.print with
                  h1 := s.print.printLine.getD Line.white, h2 := s.print.h1, printLine := none, sequence := none
                  dueTimer := some (j.interval - (s.now - s.print.lineStart))
                  work := some { j with outputLines := j.outputLines + 1, lineActive := false, lastDone := some s.now } }
         let lastOne := (∃ g0, q.left = [g0]) ∧ q.loaded = none ∧ q.shifting = none ∧ q.todo = [] ∧ q.plan.overLines = 0
           ∧ (j.outputLines + 1) % 16 ≠ 0 ∧ (s.chain .print).cutPending = false
         (∀ g0 g rest, q.left = g0 :: g :: rest → Completes .groupEnergizeEnd s fun t =>
            t.print = { s.print with
                sequence := some { q with left := g :: rest, fireTimer := some (q.plan.duration k) } }
              ∧ t.store = s.store ∧ kept t)
          ∧ (∀ g0 k', q.left = [g0] → q.loaded = some k' → Completes .groupEnergizeEnd s fun t =>
            t.print = { s.print with sequence := some { q with
                firing := some k', left := q.plan.groups.filter fun g => decide (0 < g.dots k')
                fireTimer := some (q.plan.duration k'), loaded := none, pulse := true
                shifting := q.todo.head?, todo := q.todo.drop 1
                loadTimer := q.todo.head?.map fun _ => 1728 / s.print.heat.clockMHz } }
              ∧ t.store = s.store ∧ kept t)
          ∧ (∀ a p n, lastOne → j.request.source = .lines a p n → Completes .groupEnergizeEnd s fun t =>
            completes t ∧ t.store = s.store ∧ kept t)
          ∧ (∀ i, lastOne → j.request.source = .page i →
            (let st := s.store
             let page := st.page i
             let next := (j.outputLines + 1) * j.request.scale / 256
             (page.keep = true → Completes .groupEnergizeEnd s fun t => completes t ∧ t.store = st ∧ kept t)
              ∧ (∀ b, page.keep = false → page.first = some b →
                  ((st.band b).state = .filling ∨ next ≤ page.base + (st.band b).lines - 1
                    ∨ page.lines ≤ page.base + (st.band b).lines - 1) → Completes .groupEnergizeEnd s fun t =>
                  completes t ∧ t.store = st ∧ kept t)
              ∧ (∀ b b2 tail, page.keep = false → i < st.pages.length → page.first = some b → 1 < page.count →
                  (st.band b).next = some b2 → (st.band b).state = .full → 1 ≤ (st.band b).lines →
                  page.base + (st.band b).lines ≤ next → page.base + (st.band b).lines ≤ page.lines →
                  st.tail = some tail → tail ≠ b → tail ≠ b2 → b ≠ b2 → b < st.bands.length →
                  ((st.band b2).state = .filling ∨ next ≤ page.base + (st.band b).lines + (st.band b2).lines - 1) →
                  Completes .groupEnergizeEnd s fun t =>
                    completes t ∧ t.store.page i = { page with
                        first := some b2, base := page.base + (st.band b).lines, count := page.count - 1 }
                      ∧ (∀ x, x ≠ i → t.store.page x = st.page x) ∧ t.store.count = st.count + 1
                      ∧ t.store.tail = some b ∧ t.store.band b = { state := .free, page := 0, lines := 0, next := none }
                      ∧ kept t)))))
    ∧ (∀ (s : State) (j : PrintJob) (r : Taken) (a p n : Nat), plain s →
        s.scan.work = none → s.motion.jobD = none → s.motion.jobP = none → s.print.work = some j → j.phase = .heatWait →
        s.print.overheat = some 0 → j.request.source = .lines a p n → (s.chain .print).taken = some r →
        r.stage = .working → Completes .overheatExpiry s fun t =>
          EndsWith .print r .failed .overheat s t ∧ t.print.work = none ∧ t.print.overheat = none
            ∧ t.motion.p.owner = .none ∧ t.motion.d = s.motion.d ∧ keptBut .print s t ∧ t.store = s.store)
    ∧ ∀ s : State, ((∀ q, s.print.sequence = some q → q.loadTimer ≠ some 0) → exec .loadEnd s = .next s)
      ∧ ((∀ q, s.print.sequence = some q → q.fireTimer ≠ some 0) → exec .groupEnergizeEnd s = .next s)
      ∧ (s.print.overheat ≠ some 0 → exec .overheatExpiry s = .next s)

/-- For a temperature code up to 255 and 16 entries: the interpolation is e[15] from code 240 on, else e[i] plus the
quotient, floored toward minus infinity, of (e[i+1] − e[i]) × f + 8 by 16; it lies between the two entries and is e[i]
at f = 0; clamped between min and max pulse it is the base. For shares with k_hot ≤ k_warm ≤ 16, dA, dB and dC are
rnd(k_hot), rnd(k_warm) − rnd(k_hot) and base − rnd(k_warm), none is negative, they sum to the base, dB is 0 for equal
shares, dC is 0 for k_warm 16, and all are 0 for base 0. -/
def Obligations.HeatLaws : Prop :=
  (∀ (h : HeatTable) (t : Nat), t ≤ 255 → h.minPulse ≤ h.maxPulse →
      (let e := fun i => (h.energy.getD i 0 : Int)
       let i := t / 16
       let f := t % 16
       ∃ v : Int, (i = 15 → v = e 15)
        ∧ (i < 15 → ∃ q : Int, 16 * q ≤ (e (i + 1) - e i) * f + 8 ∧ (e (i + 1) - e i) * f + 8 < 16 * q + 16
            ∧ v = e i + q ∧ min (e i) (e (i + 1)) ≤ v ∧ v ≤ max (e i) (e (i + 1)) ∧ (f = 0 → v = e i))
        ∧ (basePulse h t : Int) = min (max v h.minPulse) h.maxPulse
        ∧ h.minPulse ≤ basePulse h t ∧ basePulse h t ≤ h.maxPulse))
    ∧ (∀ (h : HeatTable) (base : Nat), h.kHot ≤ h.kWarm → h.kWarm ≤ 16 →
        (let rnd := fun k => (base * k + 8) / 16
         durationA h base = rnd h.kHot ∧ durationB h base + rnd h.kHot = rnd h.kWarm
          ∧ durationC h base + rnd h.kWarm = base ∧ durationA h base + durationB h base + durationC h base = base
          ∧ (h.kHot = h.kWarm → durationB h base = 0) ∧ (h.kWarm = 16 → durationC h base = 0)
          ∧ (base = 0 → durationA h base = 0 ∧ durationB h base = 0 ∧ durationC h base = 0)))

/-- For every line, history and dot limit: the groups cover blocks 0 to 7 in order, each once; a group holds more
black dots than the limit only if it is one block; a group is closed only where the next block would take it beyond
the limit, so the walk is the greedy one; the over-limit count is 1 exactly if some block exceeds the limit; each dot
is heated by its history: B is the line without the dots black in both history lines, C without those black in the
last; no group has more dots of C than of B or of B than of A. -/
def Obligations.StrobeGroupsLaw : Prop :=
  ∀ (h : HeatTable) (temp : Nat) (l h1 h2 : Line),
    (let p := makePlan h temp l h1 h2
     (p.groups.map fun g => (List.range g.blocks).map fun i => g.first + i).flatten = List.range 8
      ∧ (∀ g ∈ p.groups, 0 < g.blocks ∧ g.dotsA = ((List.range g.blocks).map fun i => blockDots l (g.first + i)).sum
          ∧ (h.dotLimit < g.dotsA → g.blocks = 1) ∧ g.dotsC ≤ g.dotsB ∧ g.dotsB ≤ g.dotsA)
      ∧ (∀ before g g' after, p.groups = before ++ g :: g' :: after → h.dotLimit < g.dotsA + blockDots l g'.first)
      ∧ ((∃ b, b < 8 ∧ h.dotLimit < blockDots l b) → p.overLines = 1) ∧ ((∀ b, b < 8 → blockDots l b ≤ h.dotLimit) → p.overLines = 0)
      ∧ (∀ i, i < 1728 → p.lineA.getLsbD i = l.getLsbD i
          ∧ p.lineB.getLsbD i = (l.getLsbD i && !(h1.getLsbD i && h2.getLsbD i))
          ∧ p.lineC.getLsbD i = (l.getLsbD i && !h1.getLsbD i))
      ∧ (∀ k, k ∈ p.kinds ↔ (∃ g ∈ p.groups, 0 < g.dots k) ∧ 0 < p.duration k))

/-- With the engine RUNNING and every unit waiting for an event: a frame sync restarts the link timer, brings a DOWN
link UP with a post, and offers a fetched block byte with OV and the mode code, a fill byte in an underrun with FILL-
OK, AB in ABORTING. A report acknowledges an offered byte, the last of a block ending it DONE, a fill byte counted and
posted and at the fill limit aborting the run with UNDERRUN-ABORT; without OA it counts up to the ack limit, beyond
which, in OFFERED or RETRACTING, the unit is ABORTING and the block ends FAILED MODEM-TIMEOUT, or, after the last byte
of a block that closed its run, no record fails and FAULT follows the code; OA dropped makes the handshake IDLE, an
open run without a block underrunning, its fill count 0 as it begins and kept between fill bytes; the fourth AB report
ends an abort; the second report of a MODE CHANGE ends it DONE. IV brings a byte into the latch with its write, or
begins a hold without a buffer. A code is accepted at its second report in a row, with its post and CONDITION; code 15
ends a block FAILED MODEM-FAULT and aborts its run. The link timer's expiry takes the link DOWN with LINK-DOWN and
FAULT, a TAKEN record not yet acted on left to its own row (log entry 43); one not at 0 does not expire (log entry 7).
In an engine reset the same two posts are made, before the waiting write of STOPPED: their place is the model's choice
(log entry 46). The order of the two posts at the link going DOWN (log entry 63) and the unnamed bits of the condition
code, 0 (log entry 65), are the model's choices, as are the fill count of 0 after an abort (log entry 67) and that a
report gives the link timer nothing to do (log entry 71). -/
def Obligations.LinkFrames : Prop :=
  (∀ s : State, atRest s → s.regs.engine = .running →
    (let m := s.modem
     let kept := fun (t : State) => keptBut .send s t ∧ t.store = s.store ∧ t.motion = s.motion ∧ t.scan = s.scan
       ∧ t.print = s.print
     let control := fun (octet : Byte) (ov ol ab : Bool) => octet.extractLsb' 4 4 = m.mode ∧ octet.getLsbD 3 = ov
       ∧ octet.getLsbD 2 = ol ∧ octet.getLsbD 1 = m.acked ∧ octet.getLsbD 0 = ab
     (m.linkUp = false → m.send = .idle → m.sendWork = none → m.underrun = false →
        exec .frameSync s = .next (rested (asking [areaPost s 163 [1] none] { s with
          modem := { m with
            linkUp := true, postedUp := true, linkTimer := some 16000
            frame := some (BitVec.ofNat 8 (16 * m.mode.toNat + if m.acked then 2 else 0), 0) } })))
      ∧ (∀ j b rest, m.linkUp = true → m.send = .idle → m.sendWork = some (.block j) → 0 < j.offered →
          m.store = b :: rest → 0 < m.fetching → Completes .frameSync s fun t =>
            (∃ o, t.modem.send = .offered o ∧ o.byte = b ∧ o.fill = false
                ∧ o.last = (j.last && decide (j.offered + 1 = j.count)))
              ∧ t.modem.store = rest ∧ t.modem.linkTimer = some 16000 ∧ t.modem.runOpen = true ∧ t.modem.waited = 0
              ∧ (∃ octet, t.modem.frame = some (octet, b)
                  ∧ control octet true (j.last && decide (j.offered + 1 = j.count)) false)
              ∧ t.chains = s.chains ∧ kept t)
      ∧ (m.linkUp = true → m.send = .idle → m.sendWork = none → m.underrun = true → m.fillOk = true →
          (s.chain .send).taken = none → Completes .frameSync s fun t =>
            t.modem.send = .offered { byte := m.fillByte, fill := true, last := false, spent := false } ∧ t.modem.waited = 0
              ∧ (∃ octet, t.modem.frame = some (octet, m.fillByte) ∧ control octet true false false)
              ∧ t.modem.underrun = true ∧ t.modem.fillCount = m.fillCount ∧ t.chains = s.chains ∧ kept t)
      ∧ (∀ n, m.linkUp = true → m.send = .aborting n → m.sendWork = none → Completes .frameSync s fun t =>
            t.modem.send = .aborting n ∧ (∃ octet, t.modem.frame = some (octet, 0) ∧ control octet false false true)
              ∧ t.chains = s.chains ∧ kept t)))
    ∧ (∀ (s : State) (o d data : Byte), atRest s → s.regs.engine = .running → s.modem.frame = some (o, d) →
    (let m := s.modem
     let kept := fun (t : State) => keptBut .send s t ∧ t.store = s.store ∧ t.motion = s.motion ∧ t.scan = s.scan
       ∧ t.print = s.print
     let octet := fun (iv il oa : Bool) (code : BitVec 4) => BitVec.ofNat 8 (16 * code.toNat + (if iv then 8 else 0)
       + (if il then 4 else 0) + (if oa then 2 else 0))
     let report := fun iv il oa code => exec (.frameReport (octet iv il oa code) data) s
     let quietly := { m with frame := none, candidate := none, holdActive := false, holdTimer := none }
     let gives := fun oa (xs : List Xfer) (m' : Modem) =>
       report false false oa m.code = .next (rested (asking xs { s with modem := m' }))
     let noMode := ∀ c n, m.sendWork ≠ some (.mode c n true)
     (∀ j b r, m.acked = false → m.send = .offered b → b.fill = false →
          m.sendWork = some (.block j) → (s.chain .send).taken = some r → r.stage = .working →
          Completes (.frameReport (octet false false true m.code) data) s fun t =>
            t.modem.waited = 0 ∧ t.modem.frame = none
              ∧ (j.sent + 1 < j.count → t.modem.send = .retracting b ∧ t.modem.sendWork = some (.block { j with sent := j.sent + 1 }) ∧ t.chains = s.chains)
              ∧ (j.count ≤ j.sent + 1 → t.modem.send = .retracting { b with spent := true } ∧ t.modem.sendWork = none ∧ t.modem.runOpen = !j.last ∧ t.modem.fillOk = j.fillOk
                  ∧ t.modem.fillByte = j.fillByte ∧ EndsWith .send r .done .none s t) ∧ kept t)
      ∧ (∀ b, m.acked = false → noMode → m.send = .retracting b → m.runOpen = false →
          gives false [] { quietly with send := .idle, waited := 0 })
      ∧ (∀ b, m.acked = false → noMode → m.send = .retracting b → m.runOpen = true → (s.chain .send).taken = none →
          gives false [] { quietly with send := .idle, waited := 0, underrun := true, fillCount := if m.underrun then m.fillCount else 0 })
      ∧ (∀ b, m.acked = false → noMode → (m.send = .offered b → m.waited + 1 ≤ m.ackLimit →
            gives false [] { quietly with waited := m.waited + 1 })
          ∧ (m.send = .retracting b → m.waited + 1 ≤ m.ackLimit → gives true [] { quietly with waited := m.waited + 1 }))
      ∧ (∀ b j r, m.acked = false → b.fill = false → m.ackLimit < m.waited + 1 →
          m.sendWork = some (.block j) → (s.chain .send).taken = some r → r.stage = .working → r.kind = .sendBlock →
          ((m.send = .offered b ∧ b.spent = false) ∨ (m.send = .retracting b ∧ (b.spent = false ∨ m.runOpen = true))) →
          Completes (.frameReport (octet false false (decide (m.send = .retracting b)) m.code) data) s fun t =>
            t.modem.send = .aborting 0 ∧ t.modem.waited = 0 ∧ t.modem.runOpen = false ∧ t.modem.underrun = false
              ∧ t.modem.sendWork = none ∧ t.modem.store = [] ∧ EndsWith .send r .failed .modemTimeout s t
              ∧ { tag := .result .send, addr := r.addr + 8, data := .write (be32 j.sent), note := none } ∈ t.dram.chain
              ∧ kept t)
      ∧ (∀ b r, m.acked = false → noMode → b.fill = false → m.send = .retracting b → m.ackLimit < m.waited + 1 →
          b.spent = true → m.runOpen = false → (s.chain .send).taken = some r → r.stage = .working →
          gives true [areaPost s 161 [4] (some .fault)] { quietly with
            send := .aborting 0, waited := 0, runOpen := false, underrun := false, fillCount := 0 })
      ∧ (∀ n, m.acked = false → noMode → m.send = .aborting n → o.getLsbD 0 = true → m.runOpen = false →
          m.resetAbort = false → (n + 1 < 4 → gives false [] { quietly with send := .aborting (n + 1) })
            ∧ (4 ≤ n + 1 → gives false [] { quietly with send := .idle, waited := 0 }))
      ∧ (∀ b, m.acked = false → m.sendWork = none → m.send = .offered b → b.fill = true →
          (s.chain .send).taken = none →
          (let total := areaPost s 184 (be32 (m.fillTotal + 1).toNat) none
           (m.fillCount + 1 < m.fillLimit → gives true [total] { quietly with
              send := .retracting b, waited := 0, fillCount := m.fillCount + 1, fillTotal := m.fillTotal + 1 })
            ∧ (m.fillLimit ≤ m.fillCount + 1 → gives true [total, areaPost s 161 [5] (some .fault)] { quietly with
              send := .aborting 0, waited := 0, runOpen := false, underrun := false, fillCount := 0
              fillTotal := m.fillTotal + 1 })))
      ∧ (∀ c n r, m.acked = false → m.send = .idle → m.sendWork = some (.mode c n true) →
          (s.chain .send).taken = some r → r.stage = .working →
          (n = 0 → gives false [] { quietly with sendWork := some (.mode c 1 false) })
            ∧ (1 ≤ n → Completes (.frameReport (octet false false false m.code) data) s fun t =>
              EndsWith .send r .done .none s t ∧ t.modem = { quietly with sendWork := none, waitTimer := none } ∧ kept t))
      ∧ (∀ j il, m.acked = false → m.send = .idle → noMode → m.receiveWork = some j →
          (m.latch = none → report true il false m.code = .next (rested { s with
              dram := { s.dram with modem := s.dram.modem ++
                [{ tag := .receive, addr := j.addr + j.count, data := .write [data], note := none }] }
              modem := { quietly with
                latch := some (data, il), acked := true, receiveWork := some { j with count := j.count + 1 } } }))
            ∧ (m.latch ≠ none → report true il false m.code
                = .next (rested { s with modem := { m with frame := none, candidate := none } })))
      ∧ (∀ il, m.acked = false → m.send = .idle → noMode → m.receiveWork = none → (s.chain .receive).taken = none →
          m.holdActive = false → report true il false m.code = .next (rested { s with modem := { m with
            frame := none, candidate := none, holdActive := true
            holdTimer := if m.holdLimitMs = 0 then none else some (m.holdLimitMs * 1000) } }))
      ∧ (∀ iv il, m.acked = true → m.send = .idle → noMode → report iv il false m.code
          = .next (rested { s with modem := { m with frame := none, candidate := none, acked := iv } }))
      ∧ (∀ code, m.acked = false → m.send = .idle → m.sendWork = none → code ≠ m.code →
          (m.candidate ≠ some code → report false false false code
            = .next (rested { s with modem := { quietly with candidate := some code } }))
          ∧ (m.candidate = some code → code ≠ 15 → report false false false code
            = .next (rested (asking [areaPost s 164 [BitVec.ofNat 8 code.toNat] (some .condition)]
                { s with modem := { quietly with code := code, postedCode := code } }))))
      ∧ (∀ j r, m.acked = false → m.send = .idle → m.code ≠ 15 → m.candidate = some 15 → m.runOpen = true →
          m.sendWork = some (.block j) → (s.chain .send).taken = some r → r.stage = .working → m.receiveWork = none →
          Completes (.frameReport (octet false false false 15) data) s fun t =>
            t.modem.code = 15 ∧ t.modem.send = .aborting 0 ∧ t.modem.runOpen = false ∧ t.modem.sendWork = none
              ∧ areaPost s 164 [15] (some .condition) ∈ t.dram.chain ∧ EndsWith .send r .failed .modemFault s t ∧ kept t)))
    ∧ (∀ s : State, atRest s → s.regs.engine = .running → s.modem.linkUp = true → s.modem.linkTimer = some 0 →
        s.modem.sendWork = none → s.modem.receiveWork = none → s.modem.resetAbort = false →
        exec .linkTimerExpiry s = .next (rested (asking
          [areaPost s 163 [0] none, areaPost s 161 [3] (some .fault)] { s with
            modem := { s.modem with
              linkUp := false, linkTimer := none, candidate := none, postedUp := false, send := .idle, waited := 0
              runOpen := false, underrun := false, fillCount := 0, acked := false, holdActive := false
              holdTimer := none } })))
    ∧ (∀ (s : State) (before : List Xfer) (x : Xfer), atRest s → s.regs.engine = .resetting → s.dram.grant = none →
        s.dram.chain = before ++ [x] → x.tag = .stopped → (∀ y ∈ before, y.tag ≠ .stopped) →
        s.modem.linkUp = true → s.modem.linkTimer = some 0 → s.modem.sendWork = none → s.modem.receiveWork = none →
        Completes .linkTimerExpiry s fun t => t.modem.linkUp = false ∧ t.modem.postedUp = false ∧ t.chains = s.chains
          ∧ t.dram = { s.dram with
              chain := before ++ [areaPost s 163 [0] none, areaPost s 161 [3] (some .fault), x] })
    ∧ ∀ s : State, s.modem.linkTimer ≠ some 0 → exec .linkTimerExpiry s = .next s

/-- While every unit waits for an event: a completed send fetch appends its bytes to the send store; a completed
receive write lands, empties the latch and ends the RECEIVE BUFFER DONE with its count after a byte with IL, message
end set, or at its length, and leaves it otherwise; a receive hold's expiry posts RECEIVE-HOLD with FAULT and the hold
goes on; a CONDITION WAIT's timeout ends it FAILED WAIT-TIMEOUT with the code and the timeout in ms. A timer not at 0
does not expire: the model's reading (log entry 7). That result fields are written by rising offset, the result word
last, is the model's choice (log entry 59). That bits the tables do not name are written 0 is the model's choice (log
entry 65). -/
def Obligations.LinkTransfersAndTimers : Prop :=
  (∀ s : State, atRest s →
     (∀ j bytes rest, s.modem.sendWork = some (.block j) → j.fetched = j.count → lastRead .modem .sendFetch bytes rest s →
        exec .sendStoreFetchComplete s = .next (rested (let u := served .modem rest s
          { u with modem := { s.modem with store := s.modem.store ++ bytes, fetching := 0 } })))
      ∧ (∀ j b il r addr bytes rest, s.modem.receiveWork = some j → j.outcome = none → s.modem.latch = some (b, il) →
          lastWrite .modem .receive addr bytes rest s → (s.chain .receive).taken = some r → r.stage = .working →
          (let u := served .modem rest (writeBytes s addr bytes)
           (il = false → j.count < j.length →
              exec .receiveWriteComplete s = .next (rested { u with modem := { s.modem with latch := none } }))
            ∧ (il = true ∨ j.length ≤ j.count → exec .receiveWriteComplete s = .next (rested
                (ending .receive r .done .none [(18, [if il then 1 else 0]), (8, be32 j.count)]
                  { u with modem := { s.modem with latch := none, receiveWork := none } })))))
      ∧ (s.regs.engine = .running → s.modem.holdTimer = some 0 →
          exec .receiveHoldExpiry s = .next (asking [areaPost s 161 [6] (some .fault)]
            { s with modem := { s.modem with holdTimer := none } }))
      ∧ (∀ m v t0 ms r, s.modem.waitTimer = some 0 → s.modem.sendWork = some (.wait m v t0 ms) →
          (s.chain .send).taken = some r → r.stage = .working →
          exec .conditionWaitTimeout s = .next (rested
            (ending .send r .failed .waitTimeout [(16, be8 s.modem.code.toNat), (8, be32 (min ms 4294967295))]
              { s with modem := { s.modem with sendWork := none, waitTimer := none } }))))
    ∧ ∀ s : State, (s.modem.holdTimer ≠ some 0 → exec .receiveHoldExpiry s = .next s)
      ∧ (s.modem.waitTimer ≠ some 0 → exec .conditionWaitTimeout s = .next s)

/-- In ACTIVE and quiet, an idle timer at or above the idle seconds set enters DOZE with POWER. In SLEEP the wake
timer's expiry with TIMER in the mask begins WAKING with that cause and 128 periods of the oscillator's settling,
without it only stops the timer. In WAKING, with nothing held and nothing changed while asleep, the settled oscillator
makes the part ACTIVE out of self-refresh, no refresh owed, with the causes in the status block, that byte alone,
while the engine RUNS, and raises POWER. In SLEEP an accepted HOOK change in the mask begins WAKING too. That the
causes are written in the step itself (log entry 9), that the wake's steps 2 to 4 are one event (log entry 20) and
that an event whose time has not come changes nothing (log entry 7) are the model's choices. That bits the tables do
not name are written 0 is the model's choice (log entry 65). -/
def Obligations.PowerTimers : Prop :=
  ∀ s : State,
    (s.power.state = .active → quiet s = true → 0 < s.power.idleSeconds →
      s.power.idleSeconds * 1000000 ≤ s.power.idleTimer → exec .idleTimerExpiry s = .next { s with
        regs := { s.regs with notes := s.regs.notes ||| 0x100#10 }
        power := { s.power with
          state := .doze, idleTimer := 0, slot := if s.power.slot = .doze then .none else s.power.slot } })
      ∧ (s.power.state ≠ .active ∨ quiet s = false ∨ s.power.idleSeconds = 0
          ∨ s.power.idleTimer < s.power.idleSeconds * 1000000 → exec .idleTimerExpiry s = .next s)
      ∧ (s.power.state = .sleep → s.power.wakeTimer = some 0 →
          (s.regs.wakeMask.getLsbD 4 = true → exec .wakeTimerExpiry s = .next { s with
              power := { s.power with state := .waking, wakeTimer := none, oscTimer := some 128
                                      pendingCauses := s.power.pendingCauses ||| 16#5 } })
            ∧ (s.regs.wakeMask.getLsbD 4 = false → exec .wakeTimerExpiry s = .next { s with
              power := { s.power with wakeTimer := none } }))
      ∧ (s.power.state = .sleep → s.regs.wakeMask.getLsbD 1 = true → s.motion.hook.raw ≠ s.motion.hook.accepted →
          differsLong .hook s →
          exec (.sensorAccept .hook) s = .next { s with
            motion := { s.motion with hook := { s.motion.hook with accepted := s.motion.hook.raw, count := none } }
            power := { s.power with state := .waking, wakeTimer := none, oscTimer := some 128
                                    pendingCauses := s.power.pendingCauses ||| 2#5 } })
      ∧ (s.power.state = .waking → s.power.oscTimer = some 0 → s.dram.held = [] →
          (∀ n, (s.sensor n).accepted = (s.sensor n).posted) → s.modem.linkUp = s.modem.postedUp →
          s.modem.code = s.modem.postedCode → Completes .oscillatorSettled s fun t =>
            t.power = { s.power with state := .active, idleTimer := 0, oscTimer := none
                                     causes := s.power.pendingCauses, pendingCauses := 0 }
              ∧ t.dram.selfRefresh = false ∧ t.dram.refreshOwed = 0 ∧ t.dram.refreshTimer = s.dram.refreshInterval
              ∧ t.regs = { s.regs with notes := s.regs.notes ||| 0x100#10 }
              ∧ t.modem.linkTimer = s.modem.linkTimer.map (fun _ => 16000) ∧ t.chains = s.chains ∧ t.store = s.store
              ∧ t.scan = s.scan ∧ t.print = s.print ∧ t.bus = s.bus
              ∧ (s.regs.engine = .stopped → t.dram.cells = s.dram.cells)
              ∧ (s.regs.engine = .running → t.dram.cells = (writeBytes s (areaBase s + 168)
                  (be8 s.power.pendingCauses.toNat)).dram.cells))
      ∧ (s.power.oscTimer ≠ some 0 → exec .oscillatorSettled s = .next s)
      ∧ (s.power.wakeTimer ≠ some 0 → exec .wakeTimerExpiry s = .next s)
end

