-- ==== Sys2Proof/Laws/State.lean ====
section
/-! SUPPORT. One lemma for each field of the state under each update of one unit. -/

namespace Sys2Proof.Machine

variable (s : State)

@[simp] theorem State.updDram_dram (f : Dram → Dram) : (s.updDram f).dram = f s.dram := rfl
@[simp] theorem State.updDram_bus (f : Dram → Dram) : (s.updDram f).bus = s.bus := rfl
@[simp] theorem State.updDram_regs (f : Dram → Dram) : (s.updDram f).regs = s.regs := rfl
@[simp] theorem State.updDram_chains (f : Dram → Dram) : (s.updDram f).chains = s.chains := rfl
@[simp] theorem State.updDram_store (f : Dram → Dram) : (s.updDram f).store = s.store := rfl
@[simp] theorem State.updDram_motion (f : Dram → Dram) : (s.updDram f).motion = s.motion := rfl
@[simp] theorem State.updDram_scan (f : Dram → Dram) : (s.updDram f).scan = s.scan := rfl
@[simp] theorem State.updDram_print (f : Dram → Dram) : (s.updDram f).print = s.print := rfl
@[simp] theorem State.updDram_modem (f : Dram → Dram) : (s.updDram f).modem = s.modem := rfl
@[simp] theorem State.updDram_power (f : Dram → Dram) : (s.updDram f).power = s.power := rfl
@[simp] theorem State.updDram_boot (f : Dram → Dram) : (s.updDram f).boot = s.boot := rfl
@[simp] theorem State.updDram_now (f : Dram → Dram) : (s.updDram f).now = s.now := rfl
@[simp] theorem State.updDram_freeCount (f : Dram → Dram) : (s.updDram f).freeCount = s.freeCount := rfl
@[simp] theorem State.updDram_pending (f : Dram → Dram) : (s.updDram f).pending = s.pending := rfl

@[simp] theorem State.updBus_dram (f : HostBus → HostBus) : (s.updBus f).dram = s.dram := rfl
@[simp] theorem State.updBus_bus (f : HostBus → HostBus) : (s.updBus f).bus = f s.bus := rfl
@[simp] theorem State.updBus_regs (f : HostBus → HostBus) : (s.updBus f).regs = s.regs := rfl
@[simp] theorem State.updBus_chains (f : HostBus → HostBus) : (s.updBus f).chains = s.chains := rfl
@[simp] theorem State.updBus_store (f : HostBus → HostBus) : (s.updBus f).store = s.store := rfl
@[simp] theorem State.updBus_motion (f : HostBus → HostBus) : (s.updBus f).motion = s.motion := rfl
@[simp] theorem State.updBus_scan (f : HostBus → HostBus) : (s.updBus f).scan = s.scan := rfl
@[simp] theorem State.updBus_print (f : HostBus → HostBus) : (s.updBus f).print = s.print := rfl
@[simp] theorem State.updBus_modem (f : HostBus → HostBus) : (s.updBus f).modem = s.modem := rfl
@[simp] theorem State.updBus_power (f : HostBus → HostBus) : (s.updBus f).power = s.power := rfl
@[simp] theorem State.updBus_boot (f : HostBus → HostBus) : (s.updBus f).boot = s.boot := rfl
@[simp] theorem State.updBus_now (f : HostBus → HostBus) : (s.updBus f).now = s.now := rfl
@[simp] theorem State.updBus_freeCount (f : HostBus → HostBus) : (s.updBus f).freeCount = s.freeCount := rfl
@[simp] theorem State.updBus_pending (f : HostBus → HostBus) : (s.updBus f).pending = s.pending := rfl

@[simp] theorem State.updRegs_dram (f : Registers → Registers) : (s.updRegs f).dram = s.dram := rfl
@[simp] theorem State.updRegs_bus (f : Registers → Registers) : (s.updRegs f).bus = s.bus := rfl
@[simp] theorem State.updRegs_regs (f : Registers → Registers) : (s.updRegs f).regs = f s.regs := rfl
@[simp] theorem State.updRegs_chains (f : Registers → Registers) : (s.updRegs f).chains = s.chains := rfl
@[simp] theorem State.updRegs_store (f : Registers → Registers) : (s.updRegs f).store = s.store := rfl
@[simp] theorem State.updRegs_motion (f : Registers → Registers) : (s.updRegs f).motion = s.motion := rfl
@[simp] theorem State.updRegs_scan (f : Registers → Registers) : (s.updRegs f).scan = s.scan := rfl
@[simp] theorem State.updRegs_print (f : Registers → Registers) : (s.updRegs f).print = s.print := rfl
@[simp] theorem State.updRegs_modem (f : Registers → Registers) : (s.updRegs f).modem = s.modem := rfl
@[simp] theorem State.updRegs_power (f : Registers → Registers) : (s.updRegs f).power = s.power := rfl
@[simp] theorem State.updRegs_boot (f : Registers → Registers) : (s.updRegs f).boot = s.boot := rfl
@[simp] theorem State.updRegs_now (f : Registers → Registers) : (s.updRegs f).now = s.now := rfl
@[simp] theorem State.updRegs_freeCount (f : Registers → Registers) : (s.updRegs f).freeCount = s.freeCount := rfl
@[simp] theorem State.updRegs_pending (f : Registers → Registers) : (s.updRegs f).pending = s.pending := rfl

@[simp] theorem State.updChains_dram (f : Chains → Chains) : (s.updChains f).dram = s.dram := rfl
@[simp] theorem State.updChains_bus (f : Chains → Chains) : (s.updChains f).bus = s.bus := rfl
@[simp] theorem State.updChains_regs (f : Chains → Chains) : (s.updChains f).regs = s.regs := rfl
@[simp] theorem State.updChains_chains (f : Chains → Chains) : (s.updChains f).chains = f s.chains := rfl
@[simp] theorem State.updChains_store (f : Chains → Chains) : (s.updChains f).store = s.store := rfl
@[simp] theorem State.updChains_motion (f : Chains → Chains) : (s.updChains f).motion = s.motion := rfl
@[simp] theorem State.updChains_scan (f : Chains → Chains) : (s.updChains f).scan = s.scan := rfl
@[simp] theorem State.updChains_print (f : Chains → Chains) : (s.updChains f).print = s.print := rfl
@[simp] theorem State.updChains_modem (f : Chains → Chains) : (s.updChains f).modem = s.modem := rfl
@[simp] theorem State.updChains_power (f : Chains → Chains) : (s.updChains f).power = s.power := rfl
@[simp] theorem State.updChains_boot (f : Chains → Chains) : (s.updChains f).boot = s.boot := rfl
@[simp] theorem State.updChains_now (f : Chains → Chains) : (s.updChains f).now = s.now := rfl
@[simp] theorem State.updChains_freeCount (f : Chains → Chains) : (s.updChains f).freeCount = s.freeCount := rfl
@[simp] theorem State.updChains_pending (f : Chains → Chains) : (s.updChains f).pending = s.pending := rfl

@[simp] theorem State.updStore_dram (f : PageStore → PageStore) : (s.updStore f).dram = s.dram := rfl
@[simp] theorem State.updStore_bus (f : PageStore → PageStore) : (s.updStore f).bus = s.bus := rfl
@[simp] theorem State.updStore_regs (f : PageStore → PageStore) : (s.updStore f).regs = s.regs := rfl
@[simp] theorem State.updStore_chains (f : PageStore → PageStore) : (s.updStore f).chains = s.chains := rfl
@[simp] theorem State.updStore_store (f : PageStore → PageStore) : (s.updStore f).store = f s.store := rfl
@[simp] theorem State.updStore_motion (f : PageStore → PageStore) : (s.updStore f).motion = s.motion := rfl
@[simp] theorem State.updStore_scan (f : PageStore → PageStore) : (s.updStore f).scan = s.scan := rfl
@[simp] theorem State.updStore_print (f : PageStore → PageStore) : (s.updStore f).print = s.print := rfl
@[simp] theorem State.updStore_modem (f : PageStore → PageStore) : (s.updStore f).modem = s.modem := rfl
@[simp] theorem State.updStore_power (f : PageStore → PageStore) : (s.updStore f).power = s.power := rfl
@[simp] theorem State.updStore_boot (f : PageStore → PageStore) : (s.updStore f).boot = s.boot := rfl
@[simp] theorem State.updStore_now (f : PageStore → PageStore) : (s.updStore f).now = s.now := rfl
@[simp] theorem State.updStore_freeCount (f : PageStore → PageStore) : (s.updStore f).freeCount = s.freeCount := rfl
@[simp] theorem State.updStore_pending (f : PageStore → PageStore) : (s.updStore f).pending = s.pending := rfl

@[simp] theorem State.updMotion_dram (f : Motion → Motion) : (s.updMotion f).dram = s.dram := rfl
@[simp] theorem State.updMotion_bus (f : Motion → Motion) : (s.updMotion f).bus = s.bus := rfl
@[simp] theorem State.updMotion_regs (f : Motion → Motion) : (s.updMotion f).regs = s.regs := rfl
@[simp] theorem State.updMotion_chains (f : Motion → Motion) : (s.updMotion f).chains = s.chains := rfl
@[simp] theorem State.updMotion_store (f : Motion → Motion) : (s.updMotion f).store = s.store := rfl
@[simp] theorem State.updMotion_motion (f : Motion → Motion) : (s.updMotion f).motion = f s.motion := rfl
@[simp] theorem State.updMotion_scan (f : Motion → Motion) : (s.updMotion f).scan = s.scan := rfl
@[simp] theorem State.updMotion_print (f : Motion → Motion) : (s.updMotion f).print = s.print := rfl
@[simp] theorem State.updMotion_modem (f : Motion → Motion) : (s.updMotion f).modem = s.modem := rfl
@[simp] theorem State.updMotion_power (f : Motion → Motion) : (s.updMotion f).power = s.power := rfl
@[simp] theorem State.updMotion_boot (f : Motion → Motion) : (s.updMotion f).boot = s.boot := rfl
@[simp] theorem State.updMotion_now (f : Motion → Motion) : (s.updMotion f).now = s.now := rfl
@[simp] theorem State.updMotion_freeCount (f : Motion → Motion) : (s.updMotion f).freeCount = s.freeCount := rfl
@[simp] theorem State.updMotion_pending (f : Motion → Motion) : (s.updMotion f).pending = s.pending := rfl

@[simp] theorem State.updScan_dram (f : Scan → Scan) : (s.updScan f).dram = s.dram := rfl
@[simp] theorem State.updScan_bus (f : Scan → Scan) : (s.updScan f).bus = s.bus := rfl
@[simp] theorem State.updScan_regs (f : Scan → Scan) : (s.updScan f).regs = s.regs := rfl
@[simp] theorem State.updScan_chains (f : Scan → Scan) : (s.updScan f).chains = s.chains := rfl
@[simp] theorem State.updScan_store (f : Scan → Scan) : (s.updScan f).store = s.store := rfl
@[simp] theorem State.updScan_motion (f : Scan → Scan) : (s.updScan f).motion = s.motion := rfl
@[simp] theorem State.updScan_scan (f : Scan → Scan) : (s.updScan f).scan = f s.scan := rfl
@[simp] theorem State.updScan_print (f : Scan → Scan) : (s.updScan f).print = s.print := rfl
@[simp] theorem State.updScan_modem (f : Scan → Scan) : (s.updScan f).modem = s.modem := rfl
@[simp] theorem State.updScan_power (f : Scan → Scan) : (s.updScan f).power = s.power := rfl
@[simp] theorem State.updScan_boot (f : Scan → Scan) : (s.updScan f).boot = s.boot := rfl
@[simp] theorem State.updScan_now (f : Scan → Scan) : (s.updScan f).now = s.now := rfl
@[simp] theorem State.updScan_freeCount (f : Scan → Scan) : (s.updScan f).freeCount = s.freeCount := rfl
@[simp] theorem State.updScan_pending (f : Scan → Scan) : (s.updScan f).pending = s.pending := rfl

@[simp] theorem State.updPrint_dram (f : Print → Print) : (s.updPrint f).dram = s.dram := rfl
@[simp] theorem State.updPrint_bus (f : Print → Print) : (s.updPrint f).bus = s.bus := rfl
@[simp] theorem State.updPrint_regs (f : Print → Print) : (s.updPrint f).regs = s.regs := rfl
@[simp] theorem State.updPrint_chains (f : Print → Print) : (s.updPrint f).chains = s.chains := rfl
@[simp] theorem State.updPrint_store (f : Print → Print) : (s.updPrint f).store = s.store := rfl
@[simp] theorem State.updPrint_motion (f : Print → Print) : (s.updPrint f).motion = s.motion := rfl
@[simp] theorem State.updPrint_scan (f : Print → Print) : (s.updPrint f).scan = s.scan := rfl
@[simp] theorem State.updPrint_print (f : Print → Print) : (s.updPrint f).print = f s.print := rfl
@[simp] theorem State.updPrint_modem (f : Print → Print) : (s.updPrint f).modem = s.modem := rfl
@[simp] theorem State.updPrint_power (f : Print → Print) : (s.updPrint f).power = s.power := rfl
@[simp] theorem State.updPrint_boot (f : Print → Print) : (s.updPrint f).boot = s.boot := rfl
@[simp] theorem State.updPrint_now (f : Print → Print) : (s.updPrint f).now = s.now := rfl
@[simp] theorem State.updPrint_freeCount (f : Print → Print) : (s.updPrint f).freeCount = s.freeCount := rfl
@[simp] theorem State.updPrint_pending (f : Print → Print) : (s.updPrint f).pending = s.pending := rfl

@[simp] theorem State.updModem_dram (f : Modem → Modem) : (s.updModem f).dram = s.dram := rfl
@[simp] theorem State.updModem_bus (f : Modem → Modem) : (s.updModem f).bus = s.bus := rfl
@[simp] theorem State.updModem_regs (f : Modem → Modem) : (s.updModem f).regs = s.regs := rfl
@[simp] theorem State.updModem_chains (f : Modem → Modem) : (s.updModem f).chains = s.chains := rfl
@[simp] theorem State.updModem_store (f : Modem → Modem) : (s.updModem f).store = s.store := rfl
@[simp] theorem State.updModem_motion (f : Modem → Modem) : (s.updModem f).motion = s.motion := rfl
@[simp] theorem State.updModem_scan (f : Modem → Modem) : (s.updModem f).scan = s.scan := rfl
@[simp] theorem State.updModem_print (f : Modem → Modem) : (s.updModem f).print = s.print := rfl
@[simp] theorem State.updModem_modem (f : Modem → Modem) : (s.updModem f).modem = f s.modem := rfl
@[simp] theorem State.updModem_power (f : Modem → Modem) : (s.updModem f).power = s.power := rfl
@[simp] theorem State.updModem_boot (f : Modem → Modem) : (s.updModem f).boot = s.boot := rfl
@[simp] theorem State.updModem_now (f : Modem → Modem) : (s.updModem f).now = s.now := rfl
@[simp] theorem State.updModem_freeCount (f : Modem → Modem) : (s.updModem f).freeCount = s.freeCount := rfl
@[simp] theorem State.updModem_pending (f : Modem → Modem) : (s.updModem f).pending = s.pending := rfl

@[simp] theorem State.updPower_dram (f : Power → Power) : (s.updPower f).dram = s.dram := rfl
@[simp] theorem State.updPower_bus (f : Power → Power) : (s.updPower f).bus = s.bus := rfl
@[simp] theorem State.updPower_regs (f : Power → Power) : (s.updPower f).regs = s.regs := rfl
@[simp] theorem State.updPower_chains (f : Power → Power) : (s.updPower f).chains = s.chains := rfl
@[simp] theorem State.updPower_store (f : Power → Power) : (s.updPower f).store = s.store := rfl
@[simp] theorem State.updPower_motion (f : Power → Power) : (s.updPower f).motion = s.motion := rfl
@[simp] theorem State.updPower_scan (f : Power → Power) : (s.updPower f).scan = s.scan := rfl
@[simp] theorem State.updPower_print (f : Power → Power) : (s.updPower f).print = s.print := rfl
@[simp] theorem State.updPower_modem (f : Power → Power) : (s.updPower f).modem = s.modem := rfl
@[simp] theorem State.updPower_power (f : Power → Power) : (s.updPower f).power = f s.power := rfl
@[simp] theorem State.updPower_boot (f : Power → Power) : (s.updPower f).boot = s.boot := rfl
@[simp] theorem State.updPower_now (f : Power → Power) : (s.updPower f).now = s.now := rfl
@[simp] theorem State.updPower_freeCount (f : Power → Power) : (s.updPower f).freeCount = s.freeCount := rfl
@[simp] theorem State.updPower_pending (f : Power → Power) : (s.updPower f).pending = s.pending := rfl

@[simp] theorem State.updBoot_dram (f : Boot → Boot) : (s.updBoot f).dram = s.dram := rfl
@[simp] theorem State.updBoot_bus (f : Boot → Boot) : (s.updBoot f).bus = s.bus := rfl
@[simp] theorem State.updBoot_regs (f : Boot → Boot) : (s.updBoot f).regs = s.regs := rfl
@[simp] theorem State.updBoot_chains (f : Boot → Boot) : (s.updBoot f).chains = s.chains := rfl
@[simp] theorem State.updBoot_store (f : Boot → Boot) : (s.updBoot f).store = s.store := rfl
@[simp] theorem State.updBoot_motion (f : Boot → Boot) : (s.updBoot f).motion = s.motion := rfl
@[simp] theorem State.updBoot_scan (f : Boot → Boot) : (s.updBoot f).scan = s.scan := rfl
@[simp] theorem State.updBoot_print (f : Boot → Boot) : (s.updBoot f).print = s.print := rfl
@[simp] theorem State.updBoot_modem (f : Boot → Boot) : (s.updBoot f).modem = s.modem := rfl
@[simp] theorem State.updBoot_power (f : Boot → Boot) : (s.updBoot f).power = s.power := rfl
@[simp] theorem State.updBoot_boot (f : Boot → Boot) : (s.updBoot f).boot = f s.boot := rfl
@[simp] theorem State.updBoot_now (f : Boot → Boot) : (s.updBoot f).now = s.now := rfl
@[simp] theorem State.updBoot_freeCount (f : Boot → Boot) : (s.updBoot f).freeCount = s.freeCount := rfl
@[simp] theorem State.updBoot_pending (f : Boot → Boot) : (s.updBoot f).pending = s.pending := rfl

end Sys2Proof.Machine
end

