-- ==== Sys2Proof/Laws/Memory.lean ====
section
/-! SUPPORT. DRAM as a list of cells: writes keep the canonical form, a read gives what was written, other bytes stay. -/

namespace Sys2Proof.Machine

theorem cellsAbove_trans {lo hi : Nat} (h : lo < hi) : ∀ l : List Host.Cell, cellsAbove hi l = true → cellsAbove lo l = true
  | [], _ => rfl
  | (k, v) :: rest, hl => by
    simp only [cellsAbove, Bool.and_eq_true, decide_eq_true_eq] at *
    exact ⟨by omega, cellsAbove_trans h rest hl.2⟩

theorem cellsAbove_write {lo a : Nat} (b : Byte) (h : lo < a) :
    ∀ l : List Host.Cell, cellsAbove lo l = true → cellsAbove lo (cellsWrite l a b) = true
  | [], _ => by
    unfold cellsWrite
    split <;> simp [cellsAbove, h]
  | (k, v) :: rest, hl => by
    simp only [cellsAbove, Bool.and_eq_true, decide_eq_true_eq] at hl
    unfold cellsWrite
    have ih := cellsAbove_write b h rest hl.2
    repeat' split
    all_goals simp [cellsAbove, hl, h, ih]

/-- A write keeps the canonical form. -/
theorem cellsWrite_wf (a : Nat) (b : Byte) : ∀ l : List Host.Cell, cellsWf l = true → cellsWf (cellsWrite l a b) = true
  | [], _ => by
    unfold cellsWrite
    split <;> simp_all [cellsWf, cellsAbove]
  | (k, v) :: rest, hl => by
    have hl' := hl
    simp only [cellsWf, Bool.and_eq_true, decide_eq_true_eq] at hl
    obtain ⟨⟨hv, hab⟩, hwf⟩ := hl
    unfold cellsWrite
    split
    · split
      · exact hl'
      · rename_i hk hb
        simp only [cellsWf, cellsAbove, Bool.and_eq_true, decide_eq_true_eq]
        exact ⟨⟨hb, hk, cellsAbove_trans hk rest hab⟩, ⟨hv, hab⟩, hwf⟩
    · split
      · rename_i hk
        subst hk
        split
        · exact hwf
        · rename_i hb
          simp only [cellsWf, Bool.and_eq_true, decide_eq_true_eq]
          exact ⟨⟨hb, hab⟩, hwf⟩
      · rename_i hk hne
        simp only [cellsWf, Bool.and_eq_true, decide_eq_true_eq]
        exact ⟨⟨hv, cellsAbove_write b (by omega) rest hab⟩, cellsWrite_wf a b rest hwf⟩

theorem cellsRead_below {a lo : Nat} (h : a ≤ lo) : ∀ l : List Host.Cell, cellsAbove lo l = true → cellsRead l a = 0
  | [], _ => rfl
  | (k, v) :: rest, hl => by
    simp only [cellsAbove, Bool.and_eq_true, decide_eq_true_eq] at hl
    have hk : a ≠ k := by omega
    simp only [cellsRead, if_neg hk]
    exact cellsRead_below h rest hl.2

/-- A write leaves every other byte as it was. -/
theorem cellsRead_write_other {a c : Nat} (b : Byte) (h : c ≠ a) :
    ∀ l : List Host.Cell, cellsRead (cellsWrite l a b) c = cellsRead l c
  | [] => by
    unfold cellsWrite
    split <;> simp [cellsRead, h]
  | (k, v) :: rest => by
    unfold cellsWrite
    split
    · split
      · rfl
      · simp [cellsRead, h]
    · split
      · rename_i hk
        subst hk
        split <;> simp [cellsRead, h]
      · simp only [cellsRead]
        split
        · rfl
        · exact cellsRead_write_other b h rest

/-- Reading the byte just written gives it. -/
theorem cellsRead_write_same (a : Nat) (b : Byte) :
    ∀ l : List Host.Cell, cellsWf l = true → cellsRead (cellsWrite l a b) a = b
  | [], _ => by
    unfold cellsWrite
    split <;> simp_all [cellsRead]
  | (k, v) :: rest, hl => by
    simp only [cellsWf, Bool.and_eq_true, decide_eq_true_eq] at hl
    obtain ⟨⟨hv, hab⟩, hwf⟩ := hl
    unfold cellsWrite
    split
    · rename_i hk
      split
      · rename_i hb
        have hne : a ≠ k := by omega
        simp only [cellsRead, if_neg hne, hb]
        exact cellsRead_below (by omega) rest hab
      · simp [cellsRead]
    · split
      · rename_i hk
        subst hk
        split
        · rename_i hb
          rw [hb]
          exact cellsRead_below (Nat.le_refl _) rest hab
        · simp [cellsRead]
      · rename_i hk hne
        simp only [cellsRead, if_neg hne]
        exact cellsRead_write_same a b rest hwf

/-! ## The DRAM operations -/

theorem Dram.poke_wf (d : Dram) (a : Nat) (b : Byte) (h : cellsWf d.cells = true) : cellsWf (d.poke a b).cells = true := by
  unfold Dram.poke
  split
  · exact cellsWrite_wf a b _ h
  · exact h

theorem Dram.pokeAll_wf : ∀ (bytes : List Byte) (d : Dram) (a : Nat),
    cellsWf d.cells = true → cellsWf (d.pokeAll a bytes).cells = true
  | [], _, _, h => h
  | b :: rest, d, a, h => Dram.pokeAll_wf rest (d.poke a b) (a + 1) (Dram.poke_wf d a b h)

/-- Everything a poke leaves alone: all of the controller but the cells. -/
theorem Dram.poke_rest (d : Dram) (a : Nat) (b : Byte) : { d.poke a b with cells := d.cells } = d := by
  unfold Dram.poke
  split <;> rfl

theorem Dram.pokeAll_rest : ∀ (bytes : List Byte) (d : Dram) (a : Nat), { d.pokeAll a bytes with cells := d.cells } = d
  | [], _, _ => rfl
  | b :: rest, d, a => by
    have h1 := Dram.pokeAll_rest rest (d.poke a b) (a + 1)
    have h2 := Dram.poke_rest d a b
    calc { d.pokeAll a (b :: rest) with cells := d.cells }
        = { ({ (d.poke a b).pokeAll (a + 1) rest with cells := (d.poke a b).cells } : Dram) with cells := d.cells } := rfl
      _ = { d.poke a b with cells := d.cells } := by rw [h1]
      _ = d := h2

/-- A write of bytes leaves every byte outside them. -/
theorem Dram.pokeAll_other : ∀ (bytes : List Byte) (d : Dram) (a c : Nat), (c < a ∨ a + bytes.length ≤ c) →
    cellsRead (d.pokeAll a bytes).cells c = cellsRead d.cells c
  | [], _, _, _, _ => rfl
  | b :: rest, d, a, c, h => by
    have hc : c ≠ a := by
      simp only [List.length_cons] at h
      omega
    have h2 : c < a + 1 ∨ a + 1 + rest.length ≤ c := by
      simp only [List.length_cons] at h
      omega
    have h1 := Dram.pokeAll_other rest (d.poke a b) (a + 1) c h2
    have h3 : cellsRead (d.poke a b).cells c = cellsRead d.cells c := by
      unfold Dram.poke
      split
      · exact cellsRead_write_other b hc _
      · rfl
    exact h1.trans h3

/-- Writing bytes keeps the canonical form. -/
theorem writeBytes_wf (s : State) (a : Nat) (bytes : List Byte) (h : Memory.wf s = true) :
    Memory.wf (writeBytes s a bytes) = true := Dram.pokeAll_wf bytes s.dram a h

/-- A byte outside the bytes written reads as before. -/
theorem readByte_writeBytes_other (s : State) (a c : Nat) (bytes : List Byte) (h : c < a ∨ a + bytes.length ≤ c) :
    readByte (writeBytes s a bytes) c = readByte s c := by
  have hf : (s.dram.pokeAll a bytes).fitted = s.dram.fitted := by
    have h1 := congrArg Dram.fitted (Dram.pokeAll_rest bytes s.dram a)
    exact h1
  unfold readByte
  show (if c < (s.dram.pokeAll a bytes).fitted then cellsRead (s.dram.pokeAll a bytes).cells c else _) = _
  rw [hf, Dram.pokeAll_other bytes s.dram a c h]
  rfl

/-- The memory after a reset is in its canonical form. -/
theorem reset_memory_wf : Memory.wf State.reset = true := rfl

end Sys2Proof.Machine
end

