-- ==== Sys2Proof/Laws/Frame.lean ====
section
/-! SUPPORT. What the units never touch: the frame of the state. One lemma for each shared operation says that it keeps the frame, so
that no proof about memory, refresh, the host bus, the boot loader or the power states unfolds a unit. -/

namespace Sys2Proof.Machine

/-- The part of the state that the scan, print, motion and modem link units, the page store and the posts leave as it is: DRAM's bytes,
its geometry and refresh, the host bus, the registers but NOTES, the boot loader, the tick count and the queue, and the power unit up to the return from DOZE. -/
structure Frame where
  cells : List Host.Cell
  fitted : Nat
  installed : Nat
  refreshInterval : Nat
  refreshTimer : Nat
  refreshRow : Nat
  refreshOwed : Nat
  refreshHeld : Nat
  selfRefresh : Bool
  hostTookLast : Bool
  bus : HostBus
  area : BitVec 10
  noteMask : BitVec 10
  wakeMask : BitVec 5
  engine : EngineState
  boot : Boot
  now : Nat
  pending : List Instr
  dozing : PowerState
  slot : Slot
  idleSeconds : Nat
  wakeAfter : Nat
  wakeTimer : Option Nat
  causes : BitVec 5
  pendingCauses : BitVec 5
  oscTimer : Option Nat

/-- A power state with DOZE read as ACTIVE. -/
def PowerState.awake : PowerState → PowerState
  | .doze => .active
  | p => p

def State.frame (s : State) : Frame :=
  { cells := s.dram.cells, fitted := s.dram.fitted, installed := s.dram.installed
    refreshInterval := s.dram.refreshInterval, refreshTimer := s.dram.refreshTimer, refreshRow := s.dram.refreshRow
    refreshOwed := s.dram.refreshOwed, refreshHeld := s.dram.refreshHeld, selfRefresh := s.dram.selfRefresh, hostTookLast := s.dram.hostTookLast
    bus := s.bus, area := s.regs.area, noteMask := s.regs.noteMask, wakeMask := s.regs.wakeMask
    engine := s.regs.engine, boot := s.boot, now := s.now, pending := s.pending, dozing := s.power.state.awake
    slot := s.power.slot, idleSeconds := s.power.idleSeconds, wakeAfter := s.power.wakeAfter
    wakeTimer := s.power.wakeTimer, causes := s.power.causes, pendingCauses := s.power.pendingCauses
    oscTimer := s.power.oscTimer }

variable (s : State)

/-! ## Updates of one unit -/

@[simp] theorem updChains_frame (f : Chains → Chains) : (s.updChains f).frame = s.frame := rfl
@[simp] theorem updStore_frame (f : PageStore → PageStore) : (s.updStore f).frame = s.frame := rfl
@[simp] theorem updMotion_frame (f : Motion → Motion) : (s.updMotion f).frame = s.frame := rfl
@[simp] theorem updScan_frame (f : Scan → Scan) : (s.updScan f).frame = s.frame := rfl
@[simp] theorem updPrint_frame (f : Print → Print) : (s.updPrint f).frame = s.frame := rfl
@[simp] theorem updModem_frame (f : Modem → Modem) : (s.updModem f).frame = s.frame := rfl
@[simp] theorem updChain_frame (c : ChainId) (f : Chain → Chain) : (s.updChain c f).frame = s.frame := rfl
@[simp] theorem updChannel_frame (c : ChannelId) (f : Channel → Channel) : (s.updChannel c f).frame = s.frame := rfl
@[simp] theorem setJob_frame (c : ChannelId) (j : Option MotionJob) : (s.setJob c j).frame = s.frame := rfl
@[simp] theorem setWaitTimer_frame (c : ChannelId) (t : Option Nat) : (s.setWaitTimer c t).frame = s.frame := rfl
@[simp] theorem updSensor_frame (n : Sensor) (f : SensorCell → SensorCell) : (s.updSensor n f).frame = s.frame := rfl
@[simp] theorem bumpFree_frame : (bumpFree s).frame = s.frame := rfl
@[simp] theorem setWorking_frame (c : ChainId) : (setWorking c s).frame = s.frame := rfl

/-! ## Notes, requests and posts -/

@[simp] theorem raiseNote_frame (n : Note) : (raiseNote n s).frame = s.frame := rfl

@[simp] theorem raiseIf_frame (n : Option Note) : (raiseIf n s).frame = s.frame := by cases n <;> rfl

theorem setQueue_same (d : Dram) (r : Requester) (q : List Xfer) :
    { d.setQueue r q with boot := d.boot, scan := d.scan, print := d.print, modem := d.modem, chain := d.chain } = d := by
  cases r <;> rfl

/-- An update of DRAM that changes queues, grant or held requests only. -/
def queuesOnly (f : Dram → Dram) : Prop :=
  ∀ d, (f d).cells = d.cells ∧ (f d).fitted = d.fitted ∧ (f d).installed = d.installed
    ∧ (f d).refreshInterval = d.refreshInterval ∧ (f d).refreshTimer = d.refreshTimer ∧ (f d).refreshRow = d.refreshRow
    ∧ (f d).refreshOwed = d.refreshOwed ∧ (f d).refreshHeld = d.refreshHeld ∧ (f d).selfRefresh = d.selfRefresh ∧ (f d).hostTookLast = d.hostTookLast

theorem updDram_frame (f : Dram → Dram) (h : queuesOnly f) : (s.updDram f).frame = s.frame := by
  obtain ⟨h1, h2, h3, h4, h5, h6, h7, h8, h9, h10⟩ := h s.dram
  simp [State.frame, h1, h2, h3, h4, h5, h6, h7, h8, h9, h10]

@[simp] theorem ask_frame (r : Requester) (x : Xfer) : (ask r x s).frame = s.frame := by
  unfold ask
  split
  · rfl
  · exact updDram_frame s _ fun d => by cases r <;> simp [Dram.setQueue]

@[simp] theorem askWrite_frame (t : Tag) (a : Nat) (b : List Byte) : (askWrite t a b s).frame = s.frame := ask_frame ..

@[simp] theorem askRead_frame (r : Requester) (t : Tag) (a n : Nat) : (askRead r t a n s).frame = s.frame := ask_frame ..

/-- What a post can do: ask CHAIN while RUNNING, stand before STOPPED in an engine reset, or nothing (R127, R141). -/
theorem post_cases (o : Nat) (b : List Byte) (n : Option Note) :
    (s.regs.engine = .running ∧ post o b n s = ask .chain (areaWrite s o b n) s)
      ∨ (s.regs.engine = .resetting ∧ posting s = true
          ∧ post o b n s = s.updDram fun d => { d with chain := beforeStopped (areaWrite s o b n) d.chain })
      ∨ (posting s = false ∧ post o b n s = s) := by
  unfold post
  cases h : posting s
  · exact .inr (.inr ⟨rfl, rfl⟩)
  · cases e : s.regs.engine
    · simp [posting, e] at h
    · exact .inl ⟨rfl, rfl⟩
    · exact .inr (.inl ⟨rfl, rfl, rfl⟩)

/-- Where no write of STOPPED waits, such a write stands last. -/
theorem beforeStopped_append (x : Xfer) (q : List Xfer) (h : ∀ y ∈ q, y.tag ≠ .stopped) : beforeStopped x q = q ++ [x] := by
  induction q with
  | nil => rfl
  | cons y rest ih => simp [beforeStopped, h y (by simp), ih fun z hz => h z (by simp [hz])]

/-- Where one waits behind the writes q, such a write stands between them and it. -/
theorem beforeStopped_stopped (x y : Xfer) (q rest : List Xfer) (h : ∀ z ∈ q, z.tag ≠ .stopped) (hy : y.tag = .stopped) :
    beforeStopped x (q ++ y :: rest) = q ++ x :: y :: rest := by
  induction q with
  | nil => simp [beforeStopped, hy]
  | cons z l ih => simp [beforeStopped, h z (by simp), ih fun w hw => h w (by simp [hw])]

@[simp] theorem post_frame (o : Nat) (b : List Byte) (n : Option Note) : (post o b n s).frame = s.frame := by
  unfold post
  split
  · split
    · simp
    · exact updDram_frame s _ fun _ => ⟨rfl, rfl, rfl, rfl, rfl, rfl, rfl, rfl, rfl, rfl⟩
  · rfl

@[simp] theorem postStatus_frame (o : Nat) (b : List Byte) : (postStatus o b s).frame = s.frame := post_frame ..

@[simp] theorem postFault_frame (c : FaultCode) : (postFault c s).frame = s.frame := post_frame ..

@[simp] theorem postAnchor_frame (c : ChainId) : (postAnchor c s).frame = s.frame := by
  unfold postAnchor; dsimp only; split <;> simp

@[simp] theorem postProgress_frame (c : ChainId) (o v : Nat) : (postProgress c o v s).frame = s.frame := by
  unfold postProgress
  repeat' split
  · rfl
  · exact updDram_frame s _ fun _ => ⟨rfl, rfl, rfl, rfl, rfl, rfl, rfl, rfl, rfl, rfl⟩
  · simp

@[simp] theorem withdrawAll_frame (r : Requester) : (withdrawAll r s).frame = s.frame :=
  updDram_frame s _ fun d => by cases r <;> simp [Dram.setQueue]

@[simp] theorem withdrawFrom_frame (r : Requester) (f : Tag → Bool) : (withdrawFrom r f s).frame = s.frame :=
  updDram_frame s _ fun d => by
    repeat' split
    all_goals cases r <;> simp [Dram.setQueue]

/-! ## Ends -/

@[simp] theorem toActive_frame : (toActive s).frame = s.frame := by
  unfold toActive
  split
  · rename_i h
    simp [State.frame, PowerState.awake, h]
  · rfl

theorem foldl_frame {α : Type} (f : State → α → State) (h : ∀ s a, (f s a).frame = s.frame) :
    ∀ (l : List α) (s : State), (l.foldl f s).frame = s.frame
  | [], _ => rfl
  | a :: rest, s => (foldl_frame f h rest (f s a)).trans (h s a)

@[simp] theorem askEndWrites_frame (c : ChainId) (t : Taken) (o : RecordOutcome) (r : Reason) (l : List (Nat × List Byte)) :
    (askEndWrites c t o r l s).frame = s.frame := by
  simp only [askEndWrites, askWrite_frame]
  exact foldl_frame _ (by simp) l s

@[simp] theorem endRecord_frame (c : ChainId) (o : RecordOutcome) (r : Reason) (l : List (Nat × List Byte)) :
    (endRecord c o r l s).frame = s.frame := by
  unfold endRecord
  repeat' split
  all_goals simp

end Sys2Proof.Machine
end

