-- ==== Sys2Proof/Laws/Units.lean ====
section
/-! SUPPORT. The frame of the units: no operation of the page store, the channels, the scan, print, motion and modem link units touches it. -/

namespace Sys2Proof.Machine

variable (s : State)

/-! ## PageStore -/

@[simp] theorem commitStore_frame (st : PageStore) (bands : List Nat) (page : Nat) :
    (commitStore st bands page s).frame = s.frame := rfl

@[simp] theorem flushStore_frame : (flushStore s).frame = s.frame := by
  unfold flushStore
  split
  · rfl
  · dsimp only
    rw [updDram_frame _ _ fun d => by split <;> exact ⟨rfl, rfl, rfl, rfl, rfl, rfl, rfl, rfl, rfl, rfl⟩]
    simp

@[simp] theorem dropPrint_frame (i : Nat) : (dropPrint i s).frame = s.frame := by
  unfold dropPrint
  try dsimp only
  repeat' first | (simp; done) | split

@[simp] theorem dropKeep_frame (i : Nat) : (dropKeep i s).frame = s.frame := by
  unfold dropKeep
  try dsimp only
  repeat' first | (simp; done) | split

@[simp] theorem addPrint_frame (i : Nat) : (addPrint i s).frame = s.frame := by
  unfold addPrint
  try dsimp only
  repeat' first | (simp; done) | split

@[simp] theorem fixPage_frame (i : Nat) (cause : EndCause) : (fixPage i cause s).frame = s.frame := by
  unfold fixPage
  try dsimp only
  repeat' first | (simp; done) | split

@[simp] theorem lineWritten_frame (i : Nat) : (lineWritten i s).frame = s.frame := by
  unfold lineWritten
  try dsimp only
  repeat' first | (simp; done) | split

@[simp] theorem reportPassed_frame (i : Nat) (next : Nat) : (reportPassed i next s).frame = s.frame := by
  unfold reportPassed
  try dsimp only
  repeat' first | (simp; done) | split

/-! ## Channel -/

@[simp] theorem putChannel_frame (c : ChannelId) (new : Channel) : (putChannel c new s).frame = s.frame := by
  unfold putChannel
  try dsimp only
  repeat' first | (simp; done) | split

@[simp] theorem putRunOut_frame (c : ChannelId) (new : Channel) (rest : State → State)
    (h : ∀ s, (rest s).frame = s.frame) : (putRunOut c new rest s).frame = s.frame := by
  unfold putRunOut
  split <;> simp [h]

/-! ## Scan -/

@[simp] theorem updScanJob_frame (j : ScanJob) : (State.updScanJob s j).frame = s.frame := by
  unfold State.updScanJob
  try dsimp only
  repeat' first | (simp; done) | split

@[simp] theorem updGrayJob_frame (j : GrayJob) : (State.updGrayJob s j).frame = s.frame := by
  unfold State.updGrayJob
  try dsimp only
  repeat' first | (simp; done) | split

@[simp] theorem setLamp_frame (st : LampState) (warm : Option Nat) (linger : Option Nat) : (setLamp st warm linger s).frame = s.frame := by
  unfold setLamp
  try dsimp only
  repeat' first | (simp; done) | split

@[simp] theorem lampUp_frame : (lampUp s).frame = s.frame := by
  unfold lampUp
  try dsimp only
  repeat' first | (simp; done) | split

@[simp] theorem lampDown_frame : (lampDown s).frame = s.frame := by
  unfold lampDown
  try dsimp only
  repeat' first | (simp; done) | split

@[simp] theorem startScanRun_frame (n : Nat) (j : ScanJob) : (startScanRun n j s).frame = s.frame := by
  unfold startScanRun
  try dsimp only
  repeat' first | (simp; done) | split

@[simp] theorem releaseScan_frame : (releaseScan s).frame = s.frame := by
  unfold releaseScan
  try dsimp only
  repeat' first | (simp; done) | split

@[simp] theorem finishScan_frame (j : ScanJob) : (finishScan j s).frame = s.frame := by
  unfold finishScan
  try dsimp only
  repeat' first | (simp; done) | split

@[simp] theorem finishGray_frame (o : RecordOutcome) (r : Reason) (stored : Nat) : (finishGray o r stored s).frame = s.frame := by
  unfold finishGray
  try dsimp only
  repeat' first | (simp; done) | split

@[simp] theorem dropScan_frame (o : RecordOutcome) (r : Reason) (results : List (Nat × List Byte)) : (dropScan o r results s).frame = s.frame := by
  unfold dropScan
  try dsimp only
  repeat' first | (simp; done) | split

@[simp] theorem memoryFull_frame (j : ScanJob) : (memoryFull j s).frame = s.frame := by
  unfold memoryFull
  try dsimp only
  repeat' first | (simp; done) | split

@[simp] theorem restartScan_frame (j : ScanJob) : (restartScan j s).frame = s.frame := by
  unfold restartScan
  try dsimp only
  repeat' first | (simp; done) | split

@[simp] theorem pauseScan_frame (j : ScanJob) : (pauseScan j s).frame = s.frame := by
  unfold pauseScan
  try dsimp only
  repeat' first | (simp; done) | split

@[simp] theorem stopTest_frame (j : ScanJob) : (stopTest j s).frame = s.frame := by
  unfold stopTest
  try dsimp only
  repeat' first | (simp; done) | split

@[simp] theorem startEject_frame (cause : EndCause) (j : ScanJob) : (startEject cause j s).frame = s.frame := by
  unfold startEject
  try dsimp only
  repeat' first | (simp; done) | split

@[simp] theorem runDownScan_frame (j : ScanJob) : (runDownScan j s).frame = s.frame := by
  unfold runDownScan
  try dsimp only
  repeat' first | (simp; done) | split

@[simp] theorem enterTrail_frame (j : ScanJob) : (enterTrail j s).frame = s.frame := by
  unfold enterTrail
  try dsimp only
  repeat' first | (simp; done) | split

@[simp] theorem enterCapture_frame (j : ScanJob) : (enterCapture j s).frame = s.frame := by
  unfold enterCapture
  try dsimp only
  repeat' first | (simp; done) | split

@[simp] theorem bufferLine_frame (l : Line) (addr : Nat) : (bufferLine l addr s).frame = s.frame := by
  unfold bufferLine
  try dsimp only
  repeat' first | (simp; done) | split

@[simp] theorem afterCapture_frame (j : ScanJob) : (afterCapture j s).frame = s.frame := by
  unfold afterCapture
  try dsimp only
  repeat' first | (simp; done) | split

@[simp] theorem capture_frame (samples : List Byte) (j : ScanJob) : (capture samples j s).frame = s.frame := by
  unfold capture
  try dsimp only
  repeat' first | (simp; done) | split

@[simp] theorem captureRule_frame (samples : List Byte) (j : ScanJob) : (captureRule samples j s).frame = s.frame := by
  unfold captureRule
  try dsimp only
  repeat' first | (simp; done) | split

@[simp] theorem grayRule_frame (samples : List Byte) (j : GrayJob) : (grayRule samples j s).frame = s.frame := by
  unfold grayRule
  try dsimp only
  repeat' first | (simp; done) | split

@[simp] theorem documentCheck_frame (j : ScanJob) : (documentCheck j s).frame = s.frame := by
  unfold documentCheck
  try dsimp only
  repeat' first | (simp; done) | split

@[simp] theorem claimScanPage_frame (j : ScanJob) : (claimScanPage j s).frame = s.frame := by
  unfold claimScanPage
  try dsimp only
  repeat' first | (simp; done) | split

@[simp] theorem claimGray_frame (j : GrayJob) : (claimGray j s).frame = s.frame := by
  unfold claimGray
  try dsimp only
  repeat' first | (simp; done) | split

@[simp] theorem scanEnter_frame : (scanEnter s).frame = s.frame := by
  unfold scanEnter
  try dsimp only
  repeat' first | (simp; done) | split

@[simp] theorem scanWarm_frame : (scanWarm s).frame = s.frame := by
  unfold scanWarm
  try dsimp only
  repeat' first | (simp; done) | split

@[simp] theorem scanClose_frame : (scanClose s).frame = s.frame := by
  unfold scanClose
  try dsimp only
  repeat' first | (simp; done) | split

@[simp] theorem scanStepped_frame (j : ScanJob) : (scanStepped j s).frame = s.frame := by
  unfold scanStepped
  try dsimp only
  repeat' first | (simp; done) | split

@[simp] theorem scanStep_frame (j : ScanJob) : (scanStep j s).frame = s.frame := by
  unfold scanStep
  try dsimp only
  repeat' first | (simp; done) | split

@[simp] theorem scanKick_frame : (scanKick s).frame = s.frame := by
  unfold scanKick
  try dsimp only
  repeat' first | (simp; done) | split

@[simp] theorem scanSettle_frame : (scanSettle s).frame = s.frame := by
  unfold scanSettle
  try dsimp only
  repeat' first | (simp; done) | split

@[simp] theorem scanCovered_frame : (scanCovered s).frame = s.frame := by
  unfold scanCovered
  try dsimp only
  repeat' first | (simp; done) | split

@[simp] theorem scanUncovered_frame : (scanUncovered s).frame = s.frame := by
  unfold scanUncovered
  try dsimp only
  repeat' first | (simp; done) | split

@[simp] theorem cutScanPage_frame (j : ScanJob) : (cutScanPage j s).frame = s.frame := by
  unfold cutScanPage
  try dsimp only
  repeat' first | (simp; done) | split

@[simp] theorem cutGray_frame (j : GrayJob) : (cutGray j s).frame = s.frame := by
  unfold cutGray
  try dsimp only
  repeat' first | (simp; done) | split

@[simp] theorem cutScan_frame : (cutScan s).frame = s.frame := by
  unfold cutScan
  try dsimp only
  repeat' first | (simp; done) | split

@[simp] theorem scanCover_frame : (scanCover s).frame = s.frame := by
  unfold scanCover
  try dsimp only
  repeat' first | (simp; done) | split

@[simp] theorem lineBufferDone_frame : (lineBufferDone s).frame = s.frame := by
  unfold lineBufferDone
  try dsimp only
  repeat' first | (simp; done) | split

@[simp] theorem grayRowDone_frame : (grayRowDone s).frame = s.frame := by
  unfold grayRowDone
  try dsimp only
  repeat' first | (simp; done) | split

@[simp] theorem scanReset_frame : (scanReset s).frame = s.frame := by
  unfold scanReset
  try dsimp only
  repeat' first | (simp; done) | split

/-! ## Print -/

@[simp] theorem updPrintJob_frame (j : PrintJob) : (State.updPrintJob s j).frame = s.frame := by
  unfold State.updPrintJob
  try dsimp only
  repeat' first | (simp; done) | split

@[simp] theorem setSupply_frame (st : SupplyState) (settle : Option Nat) (linger : Option Nat) : (setSupply st settle linger s).frame = s.frame := by
  unfold setSupply
  try dsimp only
  repeat' first | (simp; done) | split

@[simp] theorem supplyUp_frame : (supplyUp s).frame = s.frame := by
  unfold supplyUp
  try dsimp only
  repeat' first | (simp; done) | split

@[simp] theorem supplyDown_frame : (supplyDown s).frame = s.frame := by
  unfold supplyDown
  try dsimp only
  repeat' first | (simp; done) | split

@[simp] theorem finishPrint_frame (o : RecordOutcome) (r : Reason) (j : PrintJob) : (finishPrint o r j s).frame = s.frame := by
  unfold finishPrint
  try dsimp only
  repeat' first | (simp; done) | split

@[simp] theorem formLine_frame (r : PrintRequest) (src : Line) (stamp : Line) : (formLine r src stamp s).frame = s.frame := by
  unfold formLine
  try dsimp only
  repeat' first | (simp; done) | split

@[simp] theorem beginFetch_frame (r : PrintRequest) : (beginFetch r s).frame = s.frame := by
  unfold beginFetch
  try dsimp only
  repeat' first | (simp; done) | split

@[simp] theorem fetchNext_frame (r : PrintRequest) : (fetchNext r s).frame = s.frame := by
  unfold fetchNext
  try dsimp only
  repeat' first | (simp; done) | split

@[simp] theorem enterFeedOut_frame (j : PrintJob) : (enterFeedOut j s).frame = s.frame := by
  unfold enterFeedOut
  try dsimp only
  repeat' first | (simp; done) | split

@[simp] theorem completeLine_frame (overLines : Nat) (j : PrintJob) : (completeLine overLines j s).frame = s.frame := by
  unfold completeLine
  try dsimp only
  repeat' first | (simp; done) | split

@[simp] theorem lineStepped_frame (j : PrintJob) : (lineStepped j s).frame = s.frame := by
  unfold lineStepped
  try dsimp only
  repeat' first | (simp; done) | split

@[simp] theorem startLine_frame (j : PrintJob) : (startLine j s).frame = s.frame := by
  unfold startLine
  try dsimp only
  repeat' first | (simp; done) | split

@[simp] theorem enterSupplySettle_frame (j : PrintJob) : (enterSupplySettle j s).frame = s.frame := by
  unfold enterSupplySettle
  try dsimp only
  repeat' first | (simp; done) | split

@[simp] theorem claimPrint_frame (j : PrintJob) : (claimPrint j s).frame = s.frame := by
  unfold claimPrint
  try dsimp only
  repeat' first | (simp; done) | split

@[simp] theorem printEnter_frame : (printEnter s).frame = s.frame := by
  unfold printEnter
  try dsimp only
  repeat' first | (simp; done) | split

@[simp] theorem printAttach_frame : (printAttach s).frame = s.frame := by
  unfold printAttach
  try dsimp only
  repeat' first | (simp; done) | split

@[simp] theorem printSupply_frame : (printSupply s).frame = s.frame := by
  unfold printSupply
  try dsimp only
  repeat' first | (simp; done) | split

@[simp] theorem printFetch_frame : (printFetch s).frame = s.frame := by
  unfold printFetch
  try dsimp only
  repeat' first | (simp; done) | split

@[simp] theorem printEnded_frame : (printEnded s).frame = s.frame := by
  unfold printEnded
  try dsimp only
  repeat' first | (simp; done) | split

@[simp] theorem printStart_frame : (printStart s).frame = s.frame := by
  unfold printStart
  try dsimp only
  repeat' first | (simp; done) | split

@[simp] theorem printStepped_frame (j : PrintJob) : (printStepped j s).frame = s.frame := by
  unfold printStepped
  try dsimp only
  repeat' first | (simp; done) | split

@[simp] theorem printStep_frame (j : PrintJob) : (printStep j s).frame = s.frame := by
  unfold printStep
  try dsimp only
  repeat' first | (simp; done) | split

@[simp] theorem printKick_frame : (printKick s).frame = s.frame := by
  unfold printKick
  try dsimp only
  repeat' first | (simp; done) | split

@[simp] theorem printSettle_frame : (printSettle s).frame = s.frame := by
  unfold printSettle
  try dsimp only
  repeat' first | (simp; done) | split

@[simp] theorem sampleDone_frame (code : Nat) : (sampleDone code s).frame = s.frame := by
  unfold sampleDone
  try dsimp only
  repeat' first | (simp; done) | split

@[simp] theorem cutPrint_frame : (cutPrint s).frame = s.frame := by
  unfold cutPrint
  try dsimp only
  repeat' first | (simp; done) | split

@[simp] theorem printCover_frame : (printCover s).frame = s.frame := by
  unfold printCover
  try dsimp only
  repeat' first | (simp; done) | split

@[simp] theorem printReset_frame : (printReset s).frame = s.frame := by
  unfold printReset
  try dsimp only
  repeat' first | (simp; done) | split

/-! ## MotionUnit -/

@[simp] theorem finishMotion_frame (c : ChannelId) (o : RecordOutcome) (r : Reason) (results : List (Nat × List Byte)) : (finishMotion c o r results s).frame = s.frame := by
  unfold finishMotion
  try dsimp only
  repeat' first | (simp; done) | split

@[simp] theorem restMotion_frame (c : ChannelId) (j : MotionJob) : (restMotion c j s).frame = s.frame := by
  unfold restMotion
  try dsimp only
  repeat' first | (simp; done) | split

@[simp] theorem carryOut_frame (c : ChannelId) (j : MotionJob) : (carryOut c j s).frame = s.frame := by
  unfold carryOut
  try dsimp only
  repeat' first | (simp; done) | split

@[simp] theorem takeMotion_frame (c : ChannelId) : (takeMotion c s).frame = s.frame := by
  unfold takeMotion
  try dsimp only
  repeat' first | (simp; done) | split

@[simp] theorem motionStep_frame (c : ChannelId) (j : MotionJob) : (motionStep c j s).frame = s.frame := by
  unfold motionStep
  try dsimp only
  repeat' first | (simp; done) | split

@[simp] theorem motionKick_frame (c : ChannelId) : (motionKick c s).frame = s.frame := by
  unfold motionKick
  try dsimp only
  repeat' first | (simp; done) | split

@[simp] theorem motionSettle_frame : (motionSettle s).frame = s.frame := by
  unfold motionSettle
  try dsimp only
  repeat' first | (simp; done) | split

@[simp] theorem motionSensed_frame (c : ChannelId) (n : Sensor) (level : Bool) : (motionSensed c n level s).frame = s.frame := by
  unfold motionSensed
  try dsimp only
  repeat' first | (simp; done) | split

@[simp] theorem cutMotion_frame (c : ChannelId) : (cutMotion c s).frame = s.frame := by
  unfold cutMotion
  try dsimp only
  repeat' first | (simp; done) | split

@[simp] theorem waitExpired_frame (c : ChannelId) : (waitExpired c s).frame = s.frame := by
  unfold waitExpired
  try dsimp only
  repeat' first | (simp; done) | split

@[simp] theorem coverChannel_frame (c : ChannelId) : (coverChannel c s).frame = s.frame := by
  unfold coverChannel
  try dsimp only
  repeat' first | (simp; done) | split

@[simp] theorem motionReset_frame : (motionReset s).frame = s.frame := by
  unfold motionReset
  try dsimp only
  repeat' first | (simp; done) | split

@[simp] theorem holdExpired_frame (c : ChannelId) : (holdExpired c s).frame = s.frame := by
  unfold holdExpired
  try dsimp only
  repeat' first | (simp; done) | split

/-! ## Modem -/

@[simp] theorem updSend_frame (w : Option SendWork) : (State.updSend s w).frame = s.frame := by
  unfold State.updSend
  try dsimp only
  repeat' first | (simp; done) | split

@[simp] theorem endSendAfter_frame (o : RecordOutcome) (r : Reason) (elapsed : Nat) : (endSendAfter o r elapsed s).frame = s.frame := by
  unfold endSendAfter
  try dsimp only
  repeat' first | (simp; done) | split

@[simp] theorem endSend_frame (o : RecordOutcome) (r : Reason) : (endSend o r s).frame = s.frame := by
  unfold endSend
  try dsimp only
  repeat' first | (simp; done) | split

@[simp] theorem endReceive_frame (o : RecordOutcome) (r : Reason) (messageEnd : Bool) (j : ReceiveJob) : (endReceive o r messageEnd j s).frame = s.frame := by
  unfold endReceive
  try dsimp only
  repeat' first | (simp; done) | split

@[simp] theorem stopReceive_frame (o : RecordOutcome) (r : Reason) : (stopReceive o r s).frame = s.frame := by
  unfold stopReceive
  try dsimp only
  repeat' first | (simp; done) | split

@[simp] theorem enterAborting_frame : (enterAborting s).frame = s.frame := by
  unfold enterAborting
  try dsimp only
  repeat' first | (simp; done) | split

@[simp] theorem handshakeIdle_frame : (handshakeIdle s).frame = s.frame := by
  unfold handshakeIdle
  try dsimp only
  repeat' first | (simp; done) | split

@[simp] theorem offerByte_frame (b : SendByte) : (offerByte b s).frame = s.frame := by
  unfold offerByte
  try dsimp only
  repeat' first | (simp; done) | split

@[simp] theorem makeOffer_frame : (makeOffer s).frame = s.frame := by
  unfold makeOffer
  try dsimp only
  repeat' first | (simp; done) | split

@[simp] theorem fetchSend_frame : (fetchSend s).frame = s.frame := by
  unfold fetchSend
  try dsimp only
  repeat' first | (simp; done) | split

@[simp] theorem postLink_frame (up : Bool) : (postLink up s).frame = s.frame := by
  unfold postLink
  try dsimp only
  repeat' first | (simp; done) | split

@[simp] theorem beginFrame_frame : (beginFrame s).frame = s.frame := by
  unfold beginFrame
  try dsimp only
  repeat' first | (simp; done) | split

@[simp] theorem linkDown_frame : (linkDown s).frame = s.frame := by
  unfold linkDown
  try dsimp only
  repeat' first | (simp; done) | split

@[simp] theorem failBlock_frame (r : Reason) : (failBlock r s).frame = s.frame := by
  unfold failBlock
  try dsimp only
  repeat' first | (simp; done) | split

@[simp] theorem handshakeTimeout_frame (b : SendByte) : (handshakeTimeout b s).frame = s.frame := by
  unfold handshakeTimeout
  try dsimp only
  repeat' first | (simp; done) | split

@[simp] theorem countWaited_frame (b : SendByte) : (countWaited b s).frame = s.frame := by
  unfold countWaited
  try dsimp only
  repeat' first | (simp; done) | split

@[simp] theorem fillAcked_frame : (fillAcked s).frame = s.frame := by
  unfold fillAcked
  try dsimp only
  repeat' first | (simp; done) | split

@[simp] theorem blockAcked_frame (b : SendByte) : (blockAcked b s).frame = s.frame := by
  unfold blockAcked
  try dsimp only
  repeat' first | (simp; done) | split

@[simp] theorem sendReport_frame (oa : Bool) (ab : Bool) : (sendReport oa ab s).frame = s.frame := by
  unfold sendReport
  try dsimp only
  repeat' first | (simp; done) | split

@[simp] theorem countModeFrame_frame : (countModeFrame s).frame = s.frame := by
  unfold countModeFrame
  try dsimp only
  repeat' first | (simp; done) | split

@[simp] theorem receiveReport_frame (iv : Bool) (il : Bool) (data : Byte) : (receiveReport iv il data s).frame = s.frame := by
  unfold receiveReport
  try dsimp only
  repeat' first | (simp; done) | split

@[simp] theorem postCode_frame : (postCode s).frame = s.frame := by
  unfold postCode
  try dsimp only
  repeat' first | (simp; done) | split

@[simp] theorem modemFault_frame : (modemFault s).frame = s.frame := by
  unfold modemFault
  try dsimp only
  repeat' first | (simp; done) | split

@[simp] theorem rejectSend_frame (r : Reason) (results : List (Nat × List Byte)) : (rejectSend r results s).frame = s.frame := by
  unfold rejectSend
  try dsimp only
  repeat' first | (simp; done) | split

@[simp] theorem rejectReceive_frame (r : Reason) : (rejectReceive r s).frame = s.frame := by
  unfold rejectReceive
  try dsimp only
  repeat' first | (simp; done) | split

@[simp] theorem startBlock_frame (j : SendBlockJob) : (startBlock j s).frame = s.frame := by
  unfold startBlock
  try dsimp only
  repeat' first | (simp; done) | split

@[simp] theorem startMode_frame (code : BitVec 4) : (startMode code s).frame = s.frame := by
  unfold startMode
  try dsimp only
  repeat' first | (simp; done) | split

@[simp] theorem startWait_frame (mask : BitVec 4) (value : BitVec 4) (timeoutMs : Nat) : (startWait mask value timeoutMs s).frame = s.frame := by
  unfold startWait
  try dsimp only
  repeat' first | (simp; done) | split

@[simp] theorem sendArrived_frame (bytes : List Byte) : (sendArrived bytes s).frame = s.frame := by
  unfold sendArrived
  try dsimp only
  repeat' first | (simp; done) | split

@[simp] theorem receiveDone_frame : (receiveDone s).frame = s.frame := by
  unfold receiveDone
  try dsimp only
  repeat' first | (simp; done) | split

@[simp] theorem cutSend_frame : (cutSend s).frame = s.frame := by
  unfold cutSend
  try dsimp only
  repeat' first | (simp; done) | split

@[simp] theorem cutReceive_frame : (cutReceive s).frame = s.frame := by
  unfold cutReceive
  try dsimp only
  repeat' first | (simp; done) | split

@[simp] theorem modemReset_frame : (modemReset s).frame = s.frame := by
  unfold modemReset
  try dsimp only
  repeat' first | (simp; done) | split

end Sys2Proof.Machine
end

