-- ==== Sys2Proof/Laws/Events.lean ====
section
/-! SUPPORT. The frame of the chain unit, the sensors and what an event brings in the engines. -/

namespace Sys2Proof.Machine

variable (s : State)

@[simp] theorem enginePass_frame : (enginePass s).frame = s.frame := by
  unfold enginePass
  try dsimp only
  repeat' first | (simp; done) | split

@[simp] theorem postLevels_frame (note : Option Note) : (postLevels note s).frame = s.frame := by
  unfold postLevels
  try dsimp only
  repeat' first | (simp; done) | split

@[simp] theorem postSensor_frame (n : Sensor) : (postSensor n s).frame = s.frame := by
  unfold postSensor
  try dsimp only
  repeat' first | (simp; done) | split

@[simp] theorem reconcileSensor_frame (n : Sensor) : (reconcileSensor s n).frame = s.frame := by
  unfold reconcileSensor
  try dsimp only
  repeat' first | (simp; done) | split

@[simp] theorem reconcileLink_frame : (reconcileLink s).frame = s.frame := by
  unfold reconcileLink
  try dsimp only
  repeat' first | (simp; done) | split

@[simp] theorem rawChange_frame (n : Sensor) (level : Bool) : (rawChange n level s).frame = s.frame := by
  unfold rawChange
  try dsimp only
  repeat' first | (simp; done) | split

@[simp] theorem coverForce_frame : (coverForce s).frame = s.frame := by
  unfold coverForce
  try dsimp only
  repeat' first | (simp; done) | split

@[simp] theorem sensorUsers_frame (n : Sensor) (level : Bool) : (sensorUsers n level s).frame = s.frame := by
  unfold sensorUsers
  try dsimp only
  repeat' first | (simp; done) | split

@[simp] theorem beginFollow_frame (o : Origin) (c : ChainId) : (beginFollow o c s).frame = s.frame := by
  unfold beginFollow
  try dsimp only
  repeat' first | (simp; done) | split

@[simp] theorem restChain_frame (c : ChainId) (st : ChainState) (write : Bool) : (restChain c st write s).frame = s.frame := by
  unfold restChain
  try dsimp only
  repeat' first | (simp; done) | split

@[simp] theorem haltChain_frame (c : ChainId) (code : FaultCode) : (haltChain c code s).frame = s.frame := by
  unfold haltChain
  try dsimp only
  repeat' first | (simp; done) | split

@[simp] theorem endFollow_frame (c : ChainId) (o : Origin) : (endFollow c o s).frame = s.frame := by
  unfold endFollow
  try dsimp only
  repeat' first | (simp; done) | split

@[simp] theorem linkDone_frame (c : ChainId) (o : Origin) (bytes : List Byte) : (linkDone c o bytes s).frame = s.frame := by
  unfold linkDone
  try dsimp only
  repeat' first | (simp; done) | split

@[simp] theorem writeTaken_frame (c : ChainId) (link : Nat) (v : Verdict) (raise : Bool) (body : List Byte) : (writeTaken c link v raise body s).frame = s.frame := by
  unfold writeTaken
  try dsimp only
  repeat' first | (simp; done) | split

@[simp] theorem headerDone_frame (c : ChainId) (link : Nat) (bytes : List Byte) : (headerDone c link bytes s).frame = s.frame := by
  unfold headerDone
  try dsimp only
  repeat' first | (simp; done) | split

@[simp] theorem bodyDone_frame (c : ChainId) (link : Nat) (k : Kind) (raise : Bool) (bytes : List Byte) : (bodyDone c link k raise bytes s).frame = s.frame := by
  unfold bodyDone
  try dsimp only
  repeat' first | (simp; done) | split

@[simp] theorem takenDone_frame (c : ChainId) (link : Nat) (v : Verdict) (raise : Bool) (body : List Byte) : (takenDone c link v raise body s).frame = s.frame := by
  unfold takenDone
  try dsimp only
  repeat' first | (simp; done) | split

@[simp] theorem askStopped_frame : (askStopped s).frame = s.frame := by
  unfold askStopped
  try dsimp only
  repeat' first | (simp; done) | split

@[simp] theorem stateDone_frame (c : ChainId) (t : Taken) (o : RecordOutcome) (park : Bool) : (stateDone c t o park s).frame = s.frame := by
  unfold stateDone
  try dsimp only
  repeat' first | (simp; done) | split

@[simp] theorem followChain_frame (c : ChainId) : (followChain c s).frame = s.frame := by
  unfold followChain
  try dsimp only
  repeat' first | (simp; done) | split

@[simp] theorem engineCut_frame (c : ChainId) : (engineCut c s).frame = s.frame := by
  unfold engineCut
  try dsimp only
  repeat' first | (simp; done) | split

@[simp] theorem abandonFollow_frame (c : ChainId) : (abandonFollow c s).frame = s.frame := by
  unfold abandonFollow
  try dsimp only
  repeat' first | (simp; done) | split

@[simp] theorem resetEnd_frame (c : ChainId) (t : Taken) : (resetEnd c t s).frame = s.frame := by
  unfold resetEnd
  try dsimp only
  repeat' first | (simp; done) | split

@[simp] theorem askParked_frame (c : ChainId) : (askParked c s).frame = s.frame := by
  unfold askParked
  try dsimp only
  repeat' first | (simp; done) | split

@[simp] theorem resetRecord_frame (c : ChainId) : (resetRecord s c).frame = s.frame := by
  unfold resetRecord
  try dsimp only
  repeat' first | (simp; done) | split

@[simp] theorem loadScanTables_frame (geometry : Bool) (t : ScanTables) : (loadScanTables geometry t s).frame = s.frame := by
  unfold loadScanTables
  try dsimp only
  repeat' first | (simp; done) | split

@[simp] theorem stepFor_frame (c : ChannelId) : (stepFor c s).frame = s.frame := by
  unfold stepFor
  try dsimp only
  repeat' first | (simp; done) | split

@[simp] theorem boundary_frame (samples : List Byte) : (boundary samples s).frame = s.frame := by
  unfold boundary
  try dsimp only
  repeat' first | (simp; done) | split

@[simp] theorem groupEnded_frame (q : Sequence) (j : PrintJob) : (groupEnded q j s).frame = s.frame := by
  unfold groupEnded
  try dsimp only
  repeat' first | (simp; done) | split

end Sys2Proof.Machine
end

