-- ==== Sys2Proof/Laws/Dram.lean ====
section
/-! SUPPORT. Every operation on DRAM keeps its canonical form: bursts, grants, host cycles, transfers made at once, boot, START. -/

namespace Sys2Proof.Machine

variable (s : State)

/-! ## Operations that write no byte -/

theorem wf_of_cells {s t : State} (h : t.dram.cells = s.dram.cells) (hs : Memory.wf s = true) : Memory.wf t = true := by
  rw [Memory.wf, h]; exact hs

theorem wf_of_frame {s t : State} (h : t.frame = s.frame) (hs : Memory.wf s = true) : Memory.wf t = true :=
  wf_of_cells (congrArg Frame.cells h) hs

@[simp] theorem setQueue_cells (d : Dram) (r : Requester) (q : List Xfer) : (d.setQueue r q).cells = d.cells := by
  cases r <;> rfl

@[simp] theorem readFree_frame (a n : Nat) : (readFree s a n).2.frame = s.frame := by
  unfold readFree; split <;> rfl

@[simp] theorem bumpFree_cells : (bumpFree s).dram.cells = s.dram.cells := rfl

@[simp] theorem readFree_cells (a n : Nat) : (readFree s a n).2.dram.cells = s.dram.cells :=
  congrArg Frame.cells (readFree_frame s a n)

@[simp] theorem raiseIf_cells (n : Option Note) : (raiseIf n s).dram.cells = s.dram.cells :=
  congrArg Frame.cells (raiseIf_frame s n)

@[simp] theorem ask_cells (r : Requester) (x : Xfer) : (ask r x s).dram.cells = s.dram.cells :=
  congrArg Frame.cells (ask_frame s r x)

@[simp] theorem bootFail_cells (k : BootFailure) : (bootFail k s).dram.cells = s.dram.cells := rfl

@[simp] theorem beginSection_cells : (beginSection s).dram.cells = s.dram.cells := by
  unfold beginSection; dsimp only; split <;> rfl

@[simp] theorem sectionLoaded_cells : (sectionLoaded s).dram.cells = s.dram.cells := by
  unfold sectionLoaded; dsimp only; split
  · rfl
  · simp

@[simp] theorem bootAsk_cells : (bootAsk s).dram.cells = s.dram.cells := by
  unfold bootAsk; dsimp only; split <;> simp

@[simp] theorem imageCheck_cells : (imageCheck s).dram.cells = s.dram.cells := by
  unfold imageCheck; dsimp only; repeat' split
  all_goals simp

@[simp] theorem bootBurstDone_cells : (bootBurstDone s).dram.cells = s.dram.cells := by
  unfold bootBurstDone; split <;> simp

/-! ## The controller (R136 to R139) -/

theorem performHost_wf (c : HostCycle) (h : Memory.wf s = true) : Memory.wf (performHost c s) = true := by
  unfold performHost; dsimp only
  split
  · exact writeBytes_wf _ _ _ h
  · split
    · exact wf_of_cells (by simp [answerSnapshot]) h
    · exact wf_of_cells (by simp) h

theorem hostDone_wf (h : Memory.wf s = true) : Memory.wf (hostDone s) = true := by
  unfold hostDone
  split
  · exact h
  · exact performHost_wf _ _ h

theorem runBurst_wf (a : Nat) (b : Burst) (h : Memory.wf s = true) : Memory.wf (runBurst a b s).2 = true := by
  unfold runBurst
  split
  · exact wf_of_cells (by simp) h
  · exact writeBytes_wf _ _ _ h

theorem engineTook_wf (h : Memory.wf s = true) : Memory.wf (engineTook s) = true := h

theorem engineWrite_wf (a : Nat) (bytes : List Byte) (h : Memory.wf s = true) : Memory.wf (engineWrite a bytes s) = true :=
  writeBytes_wf _ _ _ h

theorem runXfer_wf (x : Xfer) (h : Memory.wf s = true) : Memory.wf (runXfer x s).2 = true := by
  unfold runXfer; dsimp only
  split
  · exact wf_of_cells (by simp) h
  · exact writeBytes_wf _ _ _ h

/-- With no grant of the requester begun for a withdrawn transfer there is nothing to complete. -/
theorem deadDone_none (r : Requester) (h : ∀ a b, s.dram.grant ≠ some (.engine r a b false)) : deadDone r s = s := by
  unfold deadDone
  split
  · next r' a b hg =>
    split
    · next e => exact absurd (e ▸ hg) (h a b)
    · rfl
  · rfl

theorem deadDone_wf (r : Requester) (h : Memory.wf s = true) : Memory.wf (deadDone r s) = true := by
  unfold deadDone; repeat' split
  · exact runBurst_wf _ _ _ h
  all_goals exact h

theorem runHead_wf (r : Requester) (x : Xfer) (rest : List Xfer) (h : Memory.wf s = true) :
    Memory.wf (runHead r x rest s).2 = true :=
  runXfer_wf _ _ (wf_of_cells (by simp) (deadDone_wf s r h))

theorem engineDone_wf (r : Requester) (a : Nat) (b : Burst) (live : Bool) (h : Memory.wf s = true) :
    Memory.wf (engineDone r a b live s).2 = true := by
  have hb := runBurst_wf s a b h
  unfold engineDone; dsimp only
  split
  · exact hb
  · split
    · exact hb
    · split <;> exact wf_of_cells (by simp) hb

/-- A grant that completes keeps the canonical form, whatever it was. -/
theorem completeGrant_wf (h : Memory.wf s = true) : Memory.wf (completeGrant s).2 = true := by
  unfold completeGrant
  split
  · exact h
  · dsimp only
    split
    · exact h
    · exact hostDone_wf _ h
    · exact engineDone_wf _ _ _ _ _ h

theorem giveGrant_cells : (giveGrant s).dram.cells = s.dram.cells := by
  unfold giveGrant engineGrant hostGrant
  repeat' split
  all_goals rfl

theorem flushHeld_wf (h : Memory.wf s = true) : Memory.wf (flushHeld s) = true := by
  have key : ∀ (l : List Xfer) (s : State), Memory.wf s = true → Memory.wf (l.foldl (fun s x => raiseIf x.note (engineTook (runXfer x s).2)) s) = true := by
    intro l
    induction l with
    | nil => exact fun _ h => h
    | cons x rest ih => exact fun s h => ih _ (wf_of_cells (raiseIf_cells _ _) (runXfer_wf s x h))
  exact key _ _ h

/-! ## The host (R129, R133) -/

theorem finishHostCycle_wf (h : Memory.wf s = true) : Memory.wf (finishHostCycle s) = true := by
  unfold finishHostCycle
  split
  · exact h
  · exact hostDone_wf _ h

theorem hostWrites_wf (h : Memory.wf s = true) : Memory.wf (hostWrites s) = true := finishHostCycle_wf s h

theorem updRegs_wf (f : Registers → Registers) : Memory.wf (s.updRegs f) = Memory.wf s := rfl

theorem updChains_wf (f : Chains → Chains) : Memory.wf (s.updChains f) = Memory.wf s := rfl

theorem takeSetup_cells (u : Setup) : (takeSetup u s).dram.cells = s.dram.cells := rfl

theorem acceptStart_wf (u : Setup) (h : Memory.wf s = true) : Memory.wf (acceptStart u s) = true := by
  have key : ∀ (l : List ChainId) (s : State), Memory.wf s = true → Memory.wf (l.foldl writeEmptyAnchor s) = true := by
    intro l
    induction l with
    | nil => exact fun _ h => h
    | cons c rest ih => exact fun s h => ih _ (engineWrite_wf _ _ _ h)
  unfold acceptStart
  dsimp only
  rw [updRegs_wf]
  apply engineWrite_wf
  apply key
  apply engineWrite_wf
  rw [updChains_wf]
  exact wf_of_cells (takeSetup_cells s u) h

theorem startChecks_wf (h : Memory.wf s = true) : Memory.wf (startChecks s) = true := by
  unfold startChecks; dsimp only
  split
  · exact h
  · have hr : Memory.wf (readFree (engineTook s) (areaBase s) 64).2 = true := wf_of_cells (by simp [engineTook]) h
    split
    · exact acceptStart_wf _ _ hr
    · exact wf_of_cells rfl (engineWrite_wf _ _ _ hr)

end Sys2Proof.Machine
end

