-- ==== Sys2Proof/Laws/Completion.lean ====
section
/-! SUPPORT. What follows an event, and what a completed transfer brings, writes no byte of DRAM; a completed grant keeps the canonical form. -/

namespace Sys2Proof.Machine

variable (s : State)

theorem continueSleepEntry_cells : (continueSleepEntry s).dram.cells = s.dram.cells := by
  unfold continueSleepEntry finishSleepEntry; dsimp only; repeat' split
  all_goals rfl

@[simp] theorem powerPass_cells : (powerPass s).dram.cells = s.dram.cells := by
  unfold powerPass beginSleepEntry; dsimp only; repeat' split
  all_goals first | rfl | exact continueSleepEntry_cells _

/-- What follows an event in the event itself writes no byte: the units ask for their writes. -/
@[simp] theorem settle_cells : (settle s).dram.cells = s.dram.cells := by
  rw [settle, powerPass_cells]
  exact congrArg Frame.cells (show (flushStore (enginePass (enginePass s))).frame = s.frame by simp)

theorem settle_cells_of {t : State} (h : t.frame = s.frame) : (settle t).dram.cells = s.dram.cells :=
  (settle_cells t).trans (congrArg Frame.cells h)

theorem engineStopped_cells : (engineStopped s).dram.cells = s.dram.cells := by
  unfold engineStopped; split <;> rfl

theorem cells_of_frame {s t : State} (h : t.frame = s.frame) : t.dram.cells = s.dram.cells := congrArg Frame.cells h

@[simp] theorem linkArrived_cells (c : ChainId) (bytes : List Byte) : (linkArrived c bytes s).dram.cells = s.dram.cells := by
  unfold linkArrived; split
  · exact settle_cells_of s (by simp)
  · rfl

@[simp] theorem headerArrived_cells (c : ChainId) (bytes : List Byte) : (headerArrived c bytes s).dram.cells = s.dram.cells := by
  unfold headerArrived; split
  · exact settle_cells_of s (by simp)
  · rfl

@[simp] theorem bodyArrived_cells (c : ChainId) (bytes : List Byte) : (bodyArrived c bytes s).dram.cells = s.dram.cells := by
  unfold bodyArrived; split
  · exact cells_of_frame (bodyDone_frame ..)
  · exact cells_of_frame (writeTaken_frame ..)
  · rfl

@[simp] theorem takenWritten_cells (c : ChainId) : (takenWritten c s).dram.cells = s.dram.cells := by
  unfold takenWritten; split
  · exact cells_of_frame (takenDone_frame ..)
  · rfl

@[simp] theorem stateWritten_cells (c : ChainId) : (stateWritten c s).dram.cells = s.dram.cells := by
  unfold stateWritten; repeat' split
  all_goals first | rfl | exact settle_cells_of s (stateDone_frame ..)

@[simp] theorem sourceArrived_cells (bytes : List Byte) : (sourceArrived bytes s).dram.cells = s.dram.cells := by
  unfold sourceArrived; split
  · dsimp only; split
    · rfl
    · exact (settle_cells_of _ (formLine_frame ..)).trans rfl
  · rfl

@[simp] theorem stampArrived_cells (bytes : List Byte) : (stampArrived bytes s).dram.cells = s.dram.cells := by
  unfold stampArrived; split
  · exact settle_cells_of _ (formLine_frame ..)
  · rfl

/-- What a completed transfer brings in its event writes no byte. -/
theorem finishXfer_cells (x : Xfer) : (finishXfer x s).dram.cells = s.dram.cells := by
  unfold finishXfer; dsimp only
  rw [← raiseIf_cells s x.note]
  generalize raiseIf x.note s = t
  split
  all_goals first
    | rfl
    | simp only [linkArrived_cells, headerArrived_cells, bodyArrived_cells, takenWritten_cells, stateWritten_cells, sourceArrived_cells,
        stampArrived_cells, powerPass_cells, engineStopped_cells, bootBurstDone_cells]; done
    | exact settle_cells_of t (lineBufferDone_frame _)
    | exact settle_cells_of t (grayRowDone_frame _)
    | exact settle_cells_of t (sendArrived_frame _ _)
    | exact settle_cells_of t (receiveDone_frame _)

/-- A completed grant, with all that its transfer brings, keeps the canonical form. -/
theorem grantCompleted_wf (h : Memory.wf s = true) : Memory.wf (grantCompleted s) = true := by
  have hc := completeGrant_wf s h
  unfold grantCompleted
  split
  · next heq => rw [heq] at hc; exact hc
  · next heq => rw [heq] at hc; exact wf_of_cells (finishXfer_cells _ _) hc

/-- So does the completion that a command reports. -/
theorem completed_wf (r : Requester) (tag : Tag) : ∀ (n : Nat) (s : State), Memory.wf s = true → Memory.wf (completed r tag n s) = true
  | 0, _, h => h
  | n + 1, s, h => by
    unfold completed
    split
    · exact h
    · next x rest _ =>
      have hr : Memory.wf (finishXfer (runHead r x rest s).1 (runHead r x rest s).2) = true :=
        wf_of_cells (finishXfer_cells _ _) (runHead_wf s r x rest h)
      dsimp only
      split
      · split
        · exact hr
        · exact completed_wf r tag n _ hr
      · exact h

theorem completedNow_wf (r : Requester) (tag : Tag) (h : Memory.wf s = true) : Memory.wf (completedNow r tag s) = true :=
  wf_of_cells (continueSleepEntry_cells _) (completed_wf r tag _ s h)

end Sys2Proof.Machine
end

