-- ==== Sys2Proof/Laws/Settle.lean ====
section
/-! SUPPORT. Settling a state in which nothing waits changes at most the idle timer. -/

namespace Sys2Proof.Machine

variable (s : State)

theorem scanSettle_none (h : s.scan.work = none) : scanSettle s = s := by
  simp [scanSettle, scanEnter, scanWarm, scanKick, scanClose, h]

theorem printSettle_none (h : s.print.work = none) : printSettle s = s := by
  simp [printSettle, printEnter, printAttach, printSupply, printFetch, printEnded, printStart, printKick, h]

theorem motionSettle_none (hd : s.motion.jobD = none) (hp : s.motion.jobP = none) : motionSettle s = s := by
  simp [motionSettle, takeMotion, motionKick, State.job, hd, hp]

/-- With no record in the scan, print and motion units nothing follows an event in them. -/
theorem enginePass_idle (h1 : s.scan.work = none) (h2 : s.print.work = none) (h3 : s.motion.jobD = none)
    (h4 : s.motion.jobP = none) : enginePass s = s := by
  rw [enginePass, scanSettle_none s h1, printSettle_none s h2, motionSettle_none s h3 h4]

theorem flushStore_none (h : s.store.unposted = none) : flushStore s = s := by
  simp [flushStore, h]

theorem settle_idle (h1 : s.scan.work = none) (h2 : s.print.work = none) (h3 : s.motion.jobD = none)
    (h4 : s.motion.jobP = none) (h5 : s.store.unposted = none) : settle s = powerPass s := by
  rw [settle, enginePass_idle s h1 h2 h3 h4, enginePass_idle s h1 h2 h3 h4, flushStore_none s h5]

theorem powerPass_unarmed (h : s.power.slot = .none) :
    powerPass s = if quiet s then s else s.updPower fun p => { p with idleTimer := 0 } := by
  unfold powerPass
  split <;> simp_all

/-- In a calm state settling changes at most the idle timer. -/
theorem settle_calm (h : calm s) : settle s = rested s := by
  obtain ⟨h1, h2, h3, h4, h5, -, h6⟩ := h
  rw [settle_idle s h1 h2 h3 h4 h6, powerPass_unarmed s h5]
  rfl

theorem scanSettle_rests (h : scanRests s) : scanSettle s = s := by
  obtain ⟨hp, hg⟩ := h
  rcases hw : s.scan.work with _ | (j | j)
  · exact scanSettle_none s hw
  · obtain ⟨h1, h2, h3, h4, h5⟩ := hp j hw
    have e1 : scanEnter s = s := by simp only [scanEnter, hw]; split <;> simp_all
    have e2 : scanWarm s = s := by
      have : j.phase = .paused → ¬ margin j.request.spl j.top ≤ s.store.room := fun h => Nat.not_le.mpr (h3 h)
      simp only [scanWarm, hw]
      split
      · simp_all
      · split <;> simp_all
    have e3 : scanKick s = s := by simp only [scanKick, hw]; split <;> simp_all
    have e4 : scanClose s = s := by simp only [scanClose, hw]; split <;> simp_all
    rw [scanSettle, e1, e2, e3, e4]
  · obtain ⟨h1, h2⟩ := hg j hw
    have e1 : scanEnter s = s := by simp only [scanEnter, hw]; split <;> simp_all
    have e2 : scanWarm s = s := by simp only [scanWarm, hw]; split <;> simp_all
    have e3 : scanKick s = s := by simp only [scanKick, hw]
    have e4 : scanClose s = s := by simp only [scanClose, hw]
    rw [scanSettle, e1, e2, e3, e4]

theorem printSettle_rests (h : printRests s) : printSettle s = s := by
  rcases hw : s.print.work with _ | j
  · exact printSettle_none s hw
  · obtain ⟨h1, h2, h3, h4, h5, h6, h7⟩ := h j hw
    have e1 : printEnter s = s := by simp only [printEnter, hw]; split <;> simp_all
    have e2 : printAttach s = s := by
      simp only [printAttach, hw]
      split
      · rename_i i hp hs
        simp [h2 hp i hs]
      · rfl
    have e3 : printSupply s = s := by
      simp only [printSupply, hw]
      split
      · rename_i hc
        have := h3 hc.1 hc.2.1
        simp_all
      · rfl
    have e4 : printFetch s = s := by
      simp only [printFetch, hw]
      split
      · rename_i hf
        obtain ⟨a, b⟩ := h4 hf
        simp only [fetchNext, a, b, State.updPrint, Bool.false_eq_true, if_false]
        rw [← hf]
      · rfl
    have e5 : printEnded s = s := by simp only [printEnded, hw]; split <;> simp_all
    have e6 : printStart s = s := by
      simp only [printStart, hw]
      split
      · rename_i hc
        obtain ⟨a, b⟩ := h6 hc.1 hc.2
        simp [a]
        intro c d
        exact absurd c (b d)
      · rfl
    have e7 : printKick s = s := by simp only [printKick, hw]; split <;> simp_all
    simp only [printSettle, e1, e2, e3, e4, e5, e6, e7]

theorem takeMotion_rests (c : ChannelId) (h : motionRests c s) : takeMotion c s = s := by
  unfold takeMotion
  split
  · rfl
  · rename_i j hj
    have := (h j hj).1
    dsimp only
    split
    · rename_i hc
      rcases this hc.1 with a | a <;> simp [a] at hc
    · rfl

theorem motionKick_rests (c : ChannelId) (h : motionRests c s) : motionKick c s = s := by
  unfold motionKick
  split
  · rfl
  · rename_i j hj
    have := (h j hj).2
    dsimp only
    split
    · rename_i hc
      exact absurd hc.2.2.2 (this hc.1 hc.2.1 hc.2.2.1)
    · rfl

/-- Where every unit waits for an event, settling changes at most the idle timer. -/
theorem settle_atRest (h : atRest s) : settle s = rested s := by
  obtain ⟨⟨h1, -, h2⟩, h3, h4, h5, h6⟩ := h
  have e : enginePass s = s := by
    rw [enginePass, scanSettle_rests s h3, printSettle_rests s h4, motionSettle, takeMotion_rests s _ h5,
      motionKick_rests s _ h5, takeMotion_rests s _ h6, motionKick_rests s _ h6]
  rw [settle, e, e, flushStore_none s h2, powerPass_unarmed s h1]
  rfl

theorem atRest_of_calm (h : calm s) : atRest s := by
  obtain ⟨h1, h2, h3, h4, h5, h6, h7⟩ := h
  refine ⟨⟨h5, h6, h7⟩, ⟨?_, ?_⟩, ?_, ?_, ?_⟩ <;> intro j hj <;> simp_all [State.job]

/-- Settling never touches the frame but through the power unit's own pass. -/
theorem settle_eq : settle s = powerPass (flushStore (enginePass (enginePass s))) := rfl

end Sys2Proof.Machine
end

