-- ==== Sys2Proof/Laws/Keep.lean ====
section
/-! SUPPORT. What the shared operations, the channels with the motion records, and the modem link unit leave alone of the other units. -/

namespace Sys2Proof.Machine

variable (s : State)

/-- The five units: page store, motion, scan, print and modem link unit. -/
def State.units (s : State) : PageStore × Motion × Scan × Print × Modem := (s.store, s.motion, s.scan, s.print, s.modem)

/-- The units beside the motion unit. -/
def State.asideMotion (s : State) : PageStore × Scan × Print × Modem := (s.store, s.scan, s.print, s.modem)

/-- The units beside the modem link unit. -/
def State.asideModem (s : State) : PageStore × Motion × Scan × Print := (s.store, s.motion, s.scan, s.print)

variable {s} in
theorem units_motion {t : State} (h : t.units = s.units) : t.asideMotion = s.asideMotion := by
  simp only [State.units, Prod.mk.injEq] at h
  simp [State.asideMotion, h]

variable {s} in
theorem units_modem {t : State} (h : t.units = s.units) : t.asideModem = s.asideModem := by
  simp only [State.units, Prod.mk.injEq] at h
  simp [State.asideModem, h]

theorem foldl_units {α : Type} (f : State → α → State) (h : ∀ s a, (f s a).units = s.units) :
    ∀ (l : List α) (s : State), (l.foldl f s).units = s.units
  | [], _ => rfl
  | a :: rest, s => (foldl_units f h rest (f s a)).trans (h s a)

/-! ## The shared operations -/

@[simp] theorem updChains_units (f : Chains → Chains) : (s.updChains f).units = s.units := rfl

@[simp] theorem updChains_asideMotion (f : Chains → Chains) : (s.updChains f).asideMotion = s.asideMotion := units_motion (updChains_units ..)

@[simp] theorem updChains_asideModem (f : Chains → Chains) : (s.updChains f).asideModem = s.asideModem := units_modem (updChains_units ..)

@[simp] theorem updChain_units (c : ChainId) (f : Chain → Chain) : (s.updChain c f).units = s.units := rfl

@[simp] theorem updChain_asideMotion (c : ChainId) (f : Chain → Chain) : (s.updChain c f).asideMotion = s.asideMotion := units_motion (updChain_units ..)

@[simp] theorem updChain_asideModem (c : ChainId) (f : Chain → Chain) : (s.updChain c f).asideModem = s.asideModem := units_modem (updChain_units ..)

@[simp] theorem bumpFree_units : (bumpFree s).units = s.units := rfl

@[simp] theorem bumpFree_asideMotion : (bumpFree s).asideMotion = s.asideMotion := units_motion (bumpFree_units ..)

@[simp] theorem bumpFree_asideModem : (bumpFree s).asideModem = s.asideModem := units_modem (bumpFree_units ..)

@[simp] theorem setWorking_units (c : ChainId) : (setWorking c s).units = s.units := rfl

@[simp] theorem setWorking_asideMotion (c : ChainId) : (setWorking c s).asideMotion = s.asideMotion := units_motion (setWorking_units ..)

@[simp] theorem setWorking_asideModem (c : ChainId) : (setWorking c s).asideModem = s.asideModem := units_modem (setWorking_units ..)

@[simp] theorem raiseNote_units (n : Note) : (raiseNote n s).units = s.units := rfl

@[simp] theorem raiseNote_asideMotion (n : Note) : (raiseNote n s).asideMotion = s.asideMotion := units_motion (raiseNote_units ..)

@[simp] theorem raiseNote_asideModem (n : Note) : (raiseNote n s).asideModem = s.asideModem := units_modem (raiseNote_units ..)

@[simp] theorem raiseIf_units (n : Option Note) : (raiseIf n s).units = s.units := by
  unfold raiseIf
  try dsimp only
  repeat' first | rfl | (simp; done) | split

@[simp] theorem raiseIf_asideMotion (n : Option Note) : (raiseIf n s).asideMotion = s.asideMotion := units_motion (raiseIf_units ..)

@[simp] theorem raiseIf_asideModem (n : Option Note) : (raiseIf n s).asideModem = s.asideModem := units_modem (raiseIf_units ..)

@[simp] theorem ask_units (r : Requester) (x : Xfer) : (ask r x s).units = s.units := by
  unfold ask
  try dsimp only
  repeat' first | rfl | (simp; done) | split

@[simp] theorem ask_asideMotion (r : Requester) (x : Xfer) : (ask r x s).asideMotion = s.asideMotion := units_motion (ask_units ..)

@[simp] theorem ask_asideModem (r : Requester) (x : Xfer) : (ask r x s).asideModem = s.asideModem := units_modem (ask_units ..)

@[simp] theorem askWrite_units (t : Tag) (a : Nat) (b : List Byte) : (askWrite t a b s).units = s.units := by
  unfold askWrite
  try dsimp only
  repeat' first | rfl | (simp; done) | split

@[simp] theorem askWrite_asideMotion (t : Tag) (a : Nat) (b : List Byte) : (askWrite t a b s).asideMotion = s.asideMotion := units_motion (askWrite_units ..)

@[simp] theorem askWrite_asideModem (t : Tag) (a : Nat) (b : List Byte) : (askWrite t a b s).asideModem = s.asideModem := units_modem (askWrite_units ..)

@[simp] theorem askRead_units (r : Requester) (t : Tag) (a n : Nat) : (askRead r t a n s).units = s.units := by
  unfold askRead
  try dsimp only
  repeat' first | rfl | (simp; done) | split

@[simp] theorem askRead_asideMotion (r : Requester) (t : Tag) (a n : Nat) : (askRead r t a n s).asideMotion = s.asideMotion := units_motion (askRead_units ..)

@[simp] theorem askRead_asideModem (r : Requester) (t : Tag) (a n : Nat) : (askRead r t a n s).asideModem = s.asideModem := units_modem (askRead_units ..)

@[simp] theorem post_units (o : Nat) (b : List Byte) (n : Option Note) : (post o b n s).units = s.units := by
  unfold post
  try dsimp only
  repeat' first | rfl | (simp; done) | split

@[simp] theorem post_asideMotion (o : Nat) (b : List Byte) (n : Option Note) : (post o b n s).asideMotion = s.asideMotion := units_motion (post_units ..)

@[simp] theorem post_asideModem (o : Nat) (b : List Byte) (n : Option Note) : (post o b n s).asideModem = s.asideModem := units_modem (post_units ..)

@[simp] theorem postStatus_units (o : Nat) (b : List Byte) : (postStatus o b s).units = s.units := by
  unfold postStatus
  try dsimp only
  repeat' first | rfl | (simp; done) | split

@[simp] theorem postStatus_asideMotion (o : Nat) (b : List Byte) : (postStatus o b s).asideMotion = s.asideMotion := units_motion (postStatus_units ..)

@[simp] theorem postStatus_asideModem (o : Nat) (b : List Byte) : (postStatus o b s).asideModem = s.asideModem := units_modem (postStatus_units ..)

@[simp] theorem postFault_units (c : FaultCode) : (postFault c s).units = s.units := by
  unfold postFault
  try dsimp only
  repeat' first | rfl | (simp; done) | split

@[simp] theorem postFault_asideMotion (c : FaultCode) : (postFault c s).asideMotion = s.asideMotion := units_motion (postFault_units ..)

@[simp] theorem postFault_asideModem (c : FaultCode) : (postFault c s).asideModem = s.asideModem := units_modem (postFault_units ..)

@[simp] theorem postAnchor_units (c : ChainId) : (postAnchor c s).units = s.units := by
  unfold postAnchor
  try dsimp only
  repeat' first | rfl | (simp; done) | split

@[simp] theorem postAnchor_asideMotion (c : ChainId) : (postAnchor c s).asideMotion = s.asideMotion := units_motion (postAnchor_units ..)

@[simp] theorem postAnchor_asideModem (c : ChainId) : (postAnchor c s).asideModem = s.asideModem := units_modem (postAnchor_units ..)

@[simp] theorem postProgress_units (c : ChainId) (o v : Nat) : (postProgress c o v s).units = s.units := by
  unfold postProgress
  try dsimp only
  repeat' first | rfl | (simp; done) | split

@[simp] theorem postProgress_asideMotion (c : ChainId) (o v : Nat) : (postProgress c o v s).asideMotion = s.asideMotion := units_motion (postProgress_units ..)

@[simp] theorem postProgress_asideModem (c : ChainId) (o v : Nat) : (postProgress c o v s).asideModem = s.asideModem := units_modem (postProgress_units ..)

@[simp] theorem withdrawAll_units (r : Requester) : (withdrawAll r s).units = s.units := by
  unfold withdrawAll
  try dsimp only
  repeat' first | rfl | (simp; done) | split

@[simp] theorem withdrawAll_asideMotion (r : Requester) : (withdrawAll r s).asideMotion = s.asideMotion := units_motion (withdrawAll_units ..)

@[simp] theorem withdrawAll_asideModem (r : Requester) : (withdrawAll r s).asideModem = s.asideModem := units_modem (withdrawAll_units ..)

@[simp] theorem withdrawFrom_units (r : Requester) (f : Tag → Bool) : (withdrawFrom r f s).units = s.units := by
  unfold withdrawFrom
  try dsimp only
  repeat' first | rfl | (simp; done) | split

@[simp] theorem withdrawFrom_asideMotion (r : Requester) (f : Tag → Bool) : (withdrawFrom r f s).asideMotion = s.asideMotion := units_motion (withdrawFrom_units ..)

@[simp] theorem withdrawFrom_asideModem (r : Requester) (f : Tag → Bool) : (withdrawFrom r f s).asideModem = s.asideModem := units_modem (withdrawFrom_units ..)

@[simp] theorem toActive_units : (toActive s).units = s.units := by
  unfold toActive
  try dsimp only
  repeat' first | rfl | (simp; done) | split

@[simp] theorem toActive_asideMotion : (toActive s).asideMotion = s.asideMotion := units_motion (toActive_units ..)

@[simp] theorem toActive_asideModem : (toActive s).asideModem = s.asideModem := units_modem (toActive_units ..)

@[simp] theorem askEndWrites_units (c : ChainId) (t : Taken) (o : RecordOutcome) (r : Reason) (l : List (Nat × List Byte)) : (askEndWrites c t o r l s).units = s.units := by
  simp only [askEndWrites, askWrite_units]
  exact foldl_units _ (by simp) l s

@[simp] theorem askEndWrites_asideMotion (c : ChainId) (t : Taken) (o : RecordOutcome) (r : Reason) (l : List (Nat × List Byte)) : (askEndWrites c t o r l s).asideMotion = s.asideMotion := units_motion (askEndWrites_units ..)

@[simp] theorem askEndWrites_asideModem (c : ChainId) (t : Taken) (o : RecordOutcome) (r : Reason) (l : List (Nat × List Byte)) : (askEndWrites c t o r l s).asideModem = s.asideModem := units_modem (askEndWrites_units ..)

@[simp] theorem endRecord_units (c : ChainId) (o : RecordOutcome) (r : Reason) (l : List (Nat × List Byte)) : (endRecord c o r l s).units = s.units := by
  unfold endRecord
  try dsimp only
  repeat' first | rfl | (simp; done) | split

@[simp] theorem endRecord_asideMotion (c : ChainId) (o : RecordOutcome) (r : Reason) (l : List (Nat × List Byte)) : (endRecord c o r l s).asideMotion = s.asideMotion := units_motion (endRecord_units ..)

@[simp] theorem endRecord_asideModem (c : ChainId) (o : RecordOutcome) (r : Reason) (l : List (Nat × List Byte)) : (endRecord c o r l s).asideModem = s.asideModem := units_modem (endRecord_units ..)

/-! ## Channels and motion records -/

@[simp] theorem updMotion_asideMotion (f : Motion → Motion) : (s.updMotion f).asideMotion = s.asideMotion := rfl

@[simp] theorem updChannel_asideMotion (c : ChannelId) (f : Channel → Channel) : (s.updChannel c f).asideMotion = s.asideMotion := rfl

@[simp] theorem setJob_asideMotion (c : ChannelId) (j : Option MotionJob) : (s.setJob c j).asideMotion = s.asideMotion := rfl

@[simp] theorem setWaitTimer_asideMotion (c : ChannelId) (t : Option Nat) : (s.setWaitTimer c t).asideMotion = s.asideMotion := rfl

@[simp] theorem putChannel_asideMotion (c : ChannelId) (new : Channel) : (putChannel c new s).asideMotion = s.asideMotion := by
  unfold putChannel
  try dsimp only
  repeat' first | rfl | (simp; done) | split

@[simp] theorem putRunOut_asideMotion (c : ChannelId) (new : Channel) (rest : State → State)
    (h : ∀ s, (rest s).asideMotion = s.asideMotion) : (putRunOut c new rest s).asideMotion = s.asideMotion := by
  unfold putRunOut
  split <;> simp [h]

@[simp] theorem finishMotion_asideMotion (c : ChannelId) (o : RecordOutcome) (r : Reason) (results : List (Nat × List Byte)) : (finishMotion c o r results s).asideMotion = s.asideMotion := by
  unfold finishMotion
  try dsimp only
  repeat' first | rfl | (simp; done) | split

@[simp] theorem restMotion_asideMotion (c : ChannelId) (j : MotionJob) : (restMotion c j s).asideMotion = s.asideMotion := by
  unfold restMotion
  try dsimp only
  repeat' first | rfl | (simp; done) | split

@[simp] theorem carryOut_asideMotion (c : ChannelId) (j : MotionJob) : (carryOut c j s).asideMotion = s.asideMotion := by
  unfold carryOut
  try dsimp only
  repeat' first | rfl | (simp; done) | split

@[simp] theorem takeMotion_asideMotion (c : ChannelId) : (takeMotion c s).asideMotion = s.asideMotion := by
  unfold takeMotion
  try dsimp only
  repeat' first | rfl | (simp; done) | split

@[simp] theorem motionStep_asideMotion (c : ChannelId) (j : MotionJob) : (motionStep c j s).asideMotion = s.asideMotion := by
  unfold motionStep
  try dsimp only
  repeat' first | rfl | (simp; done) | split

@[simp] theorem motionKick_asideMotion (c : ChannelId) : (motionKick c s).asideMotion = s.asideMotion := by
  unfold motionKick
  try dsimp only
  repeat' first | rfl | (simp; done) | split

@[simp] theorem motionSettle_asideMotion : (motionSettle s).asideMotion = s.asideMotion := by
  unfold motionSettle
  try dsimp only
  repeat' first | rfl | (simp; done) | split

@[simp] theorem motionSensed_asideMotion (c : ChannelId) (n : Sensor) (level : Bool) : (motionSensed c n level s).asideMotion = s.asideMotion := by
  unfold motionSensed
  try dsimp only
  repeat' first | rfl | (simp; done) | split

@[simp] theorem cutMotion_asideMotion (c : ChannelId) : (cutMotion c s).asideMotion = s.asideMotion := by
  unfold cutMotion
  try dsimp only
  repeat' first | rfl | (simp; done) | split

@[simp] theorem waitExpired_asideMotion (c : ChannelId) : (waitExpired c s).asideMotion = s.asideMotion := by
  unfold waitExpired
  try dsimp only
  repeat' first | rfl | (simp; done) | split

@[simp] theorem coverChannel_asideMotion (c : ChannelId) : (coverChannel c s).asideMotion = s.asideMotion := by
  unfold coverChannel
  try dsimp only
  repeat' first | rfl | (simp; done) | split

@[simp] theorem motionReset_asideMotion : (motionReset s).asideMotion = s.asideMotion := by
  unfold motionReset
  try dsimp only
  repeat' first | rfl | (simp; done) | split

@[simp] theorem holdExpired_asideMotion (c : ChannelId) : (holdExpired c s).asideMotion = s.asideMotion := by
  unfold holdExpired
  try dsimp only
  repeat' first | rfl | (simp; done) | split

/-- With no record in the scan and print units and no armed request, what follows an event is the motion unit's doing. -/
theorem settle_motion (h1 : s.scan.work = none) (h2 : s.print.work = none) (h3 : s.power.slot = .none)
    (h4 : s.store.unposted = none) :
    settle s = rested (motionSettle (motionSettle s)) := by
  have hk : ∀ t : State, t.scan.work = none → t.print.work = none →
      (motionSettle t).scan.work = none ∧ (motionSettle t).print.work = none := by
    intro t a b
    have h := motionSettle_asideMotion t
    simp only [State.asideMotion, Prod.mk.injEq] at h
    rw [h.2.1, h.2.2.1]
    exact ⟨a, b⟩
  have e : ∀ t : State, t.scan.work = none → t.print.work = none → enginePass t = motionSettle t := by
    intro t a b
    rw [enginePass, scanSettle_none t a, printSettle_none t b]
  obtain ⟨a, b⟩ := hk s h1 h2
  have hs : (motionSettle (motionSettle s)).store = s.store := by
    have h : (motionSettle (motionSettle s)).asideMotion = s.asideMotion := by simp
    exact congrArg Prod.fst h
  rw [settle, e s h1 h2, e _ a b, flushStore_none _ (hs ▸ h4), powerPass_unarmed]
  · rfl
  · have h : (motionSettle (motionSettle s)).frame.slot = s.frame.slot := by simp
    exact h.trans h3

/-! ## The modem link unit -/

@[simp] theorem updModem_asideModem (f : Modem → Modem) : (s.updModem f).asideModem = s.asideModem := rfl

@[simp] theorem updSend_asideModem (w : Option SendWork) : (State.updSend s w).asideModem = s.asideModem := by
  unfold State.updSend
  try dsimp only
  repeat' first | rfl | (simp; done) | split

@[simp] theorem endSendAfter_asideModem (o : RecordOutcome) (r : Reason) (elapsed : Nat) : (endSendAfter o r elapsed s).asideModem = s.asideModem := by
  unfold endSendAfter
  try dsimp only
  repeat' first | rfl | (simp; done) | split

@[simp] theorem endSend_asideModem (o : RecordOutcome) (r : Reason) : (endSend o r s).asideModem = s.asideModem := by
  unfold endSend
  try dsimp only
  repeat' first | rfl | (simp; done) | split

@[simp] theorem endReceive_asideModem (o : RecordOutcome) (r : Reason) (messageEnd : Bool) (j : ReceiveJob) : (endReceive o r messageEnd j s).asideModem = s.asideModem := by
  unfold endReceive
  try dsimp only
  repeat' first | rfl | (simp; done) | split

@[simp] theorem stopReceive_asideModem (o : RecordOutcome) (r : Reason) : (stopReceive o r s).asideModem = s.asideModem := by
  unfold stopReceive
  try dsimp only
  repeat' first | rfl | (simp; done) | split

@[simp] theorem enterAborting_asideModem : (enterAborting s).asideModem = s.asideModem := by
  unfold enterAborting
  try dsimp only
  repeat' first | rfl | (simp; done) | split

@[simp] theorem handshakeIdle_asideModem : (handshakeIdle s).asideModem = s.asideModem := by
  unfold handshakeIdle
  try dsimp only
  repeat' first | rfl | (simp; done) | split

@[simp] theorem offerByte_asideModem (b : SendByte) : (offerByte b s).asideModem = s.asideModem := by
  unfold offerByte
  try dsimp only
  repeat' first | rfl | (simp; done) | split

@[simp] theorem makeOffer_asideModem : (makeOffer s).asideModem = s.asideModem := by
  unfold makeOffer
  try dsimp only
  repeat' first | rfl | (simp; done) | split

@[simp] theorem fetchSend_asideModem : (fetchSend s).asideModem = s.asideModem := by
  unfold fetchSend
  try dsimp only
  repeat' first | rfl | (simp; done) | split

@[simp] theorem postLink_asideModem (up : Bool) : (postLink up s).asideModem = s.asideModem := by
  unfold postLink
  try dsimp only
  repeat' first | rfl | (simp; done) | split

@[simp] theorem beginFrame_asideModem : (beginFrame s).asideModem = s.asideModem := by
  unfold beginFrame
  try dsimp only
  repeat' first | rfl | (simp; done) | split

@[simp] theorem linkDown_asideModem : (linkDown s).asideModem = s.asideModem := by
  unfold linkDown
  try dsimp only
  repeat' first | rfl | (simp; done) | split

@[simp] theorem failBlock_asideModem (r : Reason) : (failBlock r s).asideModem = s.asideModem := by
  unfold failBlock
  try dsimp only
  repeat' first | rfl | (simp; done) | split

@[simp] theorem handshakeTimeout_asideModem (b : SendByte) : (handshakeTimeout b s).asideModem = s.asideModem := by
  unfold handshakeTimeout
  try dsimp only
  repeat' first | rfl | (simp; done) | split

@[simp] theorem countWaited_asideModem (b : SendByte) : (countWaited b s).asideModem = s.asideModem := by
  unfold countWaited
  try dsimp only
  repeat' first | rfl | (simp; done) | split

@[simp] theorem fillAcked_asideModem : (fillAcked s).asideModem = s.asideModem := by
  unfold fillAcked
  try dsimp only
  repeat' first | rfl | (simp; done) | split

@[simp] theorem blockAcked_asideModem (b : SendByte) : (blockAcked b s).asideModem = s.asideModem := by
  unfold blockAcked
  try dsimp only
  repeat' first | rfl | (simp; done) | split

@[simp] theorem sendReport_asideModem (oa : Bool) (ab : Bool) : (sendReport oa ab s).asideModem = s.asideModem := by
  unfold sendReport
  try dsimp only
  repeat' first | rfl | (simp; done) | split

@[simp] theorem countModeFrame_asideModem : (countModeFrame s).asideModem = s.asideModem := by
  unfold countModeFrame
  try dsimp only
  repeat' first | rfl | (simp; done) | split

@[simp] theorem receiveReport_asideModem (iv : Bool) (il : Bool) (data : Byte) : (receiveReport iv il data s).asideModem = s.asideModem := by
  unfold receiveReport
  try dsimp only
  repeat' first | rfl | (simp; done) | split

@[simp] theorem postCode_asideModem : (postCode s).asideModem = s.asideModem := by
  unfold postCode
  try dsimp only
  repeat' first | rfl | (simp; done) | split

@[simp] theorem modemFault_asideModem : (modemFault s).asideModem = s.asideModem := by
  unfold modemFault
  try dsimp only
  repeat' first | rfl | (simp; done) | split

@[simp] theorem rejectSend_asideModem (r : Reason) (results : List (Nat × List Byte)) : (rejectSend r results s).asideModem = s.asideModem := by
  unfold rejectSend
  try dsimp only
  repeat' first | rfl | (simp; done) | split

@[simp] theorem rejectReceive_asideModem (r : Reason) : (rejectReceive r s).asideModem = s.asideModem := by
  unfold rejectReceive
  try dsimp only
  repeat' first | rfl | (simp; done) | split

@[simp] theorem startBlock_asideModem (j : SendBlockJob) : (startBlock j s).asideModem = s.asideModem := by
  unfold startBlock
  try dsimp only
  repeat' first | rfl | (simp; done) | split

@[simp] theorem startMode_asideModem (code : BitVec 4) : (startMode code s).asideModem = s.asideModem := by
  unfold startMode
  try dsimp only
  repeat' first | rfl | (simp; done) | split

@[simp] theorem startWait_asideModem (mask : BitVec 4) (value : BitVec 4) (timeoutMs : Nat) : (startWait mask value timeoutMs s).asideModem = s.asideModem := by
  unfold startWait
  try dsimp only
  repeat' first | rfl | (simp; done) | split

@[simp] theorem sendArrived_asideModem (bytes : List Byte) : (sendArrived bytes s).asideModem = s.asideModem := by
  unfold sendArrived
  try dsimp only
  repeat' first | rfl | (simp; done) | split

@[simp] theorem receiveDone_asideModem : (receiveDone s).asideModem = s.asideModem := by
  unfold receiveDone
  try dsimp only
  repeat' first | rfl | (simp; done) | split

@[simp] theorem cutSend_asideModem : (cutSend s).asideModem = s.asideModem := by
  unfold cutSend
  try dsimp only
  repeat' first | rfl | (simp; done) | split

@[simp] theorem cutReceive_asideModem : (cutReceive s).asideModem = s.asideModem := by
  unfold cutReceive
  try dsimp only
  repeat' first | rfl | (simp; done) | split

@[simp] theorem modemReset_asideModem : (modemReset s).asideModem = s.asideModem := by
  unfold modemReset
  try dsimp only
  repeat' first | rfl | (simp; done) | split

end Sys2Proof.Machine
end

