-- ==== Sys2Proof/Tests/Slice0.lean ====
section
/-! SUPPORT. Tests: the WellFormed smoke tests, small tests from the spec's worked examples and tables, and for each statement with
hypotheses a witness, a concrete state and operands that meet them. -/

namespace Sys2Proof.Tests

open Sys2Proof.Machine

set_option maxRecDepth 8000

/-! ## Small states -/

/-- After a skipped boot and a START: RUNNING, ACTIVE, nothing in work. -/
def base : State := { State.reset with
  regs := { State.reset.regs with engine := .running }
  boot := { State.reset.boot with state := .ended, result := .skipped, hostReset := false } }

/-- The same, STOPPED. -/
def idle : State := { base with regs := { base.regs with engine := .stopped } }

/-- The same with a pool of 16 bands. -/
def pooled : State := { base with store := PageStore.built 65536 16 4 }

def record (k : Kind) (body : List Byte) (stage : Stage) : Taken :=
  { addr := 8192, kind := k, raise := false, body := body, stage := stage }

/-- A record TAKEN on a chain. -/
def taken (c : ChainId) (r : Taken) (s : State) : State :=
  withChain c { state := .busy, cursor := 8192, cutPending := false, follow := .idle, taken := some r } s

def handing (c : ChainId) (k : Kind) (body : List Byte) (s : State) : State := taken c (record k body .handed) s

/-- The first transfer of a requester is a read of these bytes, which stand at the address. -/
def read (r : Requester) (tag : Tag) (addr : Nat) (bytes : List Byte) (s : State) : State :=
  let s := writeBytes s addr bytes
  { s with dram := s.dram.setQueue r [{ tag := tag, addr := addr, data := .read bytes.length [], note := none }] }

/-- The first transfer of a requester is a write of these bytes to the address. -/
def written (r : Requester) (tag : Tag) (addr : Nat) (bytes : List Byte) (s : State) : State :=
  { s with dram := s.dram.setQueue r [{ tag := tag, addr := addr, data := .write bytes, note := none }] }

def following (c : ChainId) (f : Follow) (s : State) : State := withChain c { Chain.cold with state := .busy, follow := f } s

/-- Channel D claims nothing: it moves under a chain record. -/
def moving (c : ChannelId) (s : State) : State := s.updChannel c fun ch => { ch with state := .stepping, owner := .chain }

def owned (o : Owner) (c : ChannelId) (s : State) : State := s.updChannel c fun ch => { ch with owner := o }

def level (n : Sensor) (s : State) : State := s.updSensor n fun c => { c with raw := true, accepted := true, posted := true }

def stepped (t : Nat) (c : ChannelId) (s : State) : State := s.updChannel c fun ch => { ch with lastStep := some t }

/-- A MOVE of 5 steps forward at top 0, KEEP-HOLD, has issued `issued` of them. -/
def moveJob (a : EndAction) : MotionJob := { request := .move 5 true 0 a, phase := .running }

def running (c : ChannelId) (a : EndAction) (issued ramp : Nat) : State :=
  ((taken (motionChain c) (record .move [] .working) base).setJob c (some (moveJob a))).updChannel c fun ch =>
    { ch with state := .stepping, owner := .chain, ramp := ramp, lastStep := some 0, stepDue := some 0
              profile := some { planned := 5, issued := issued, forward := true, top := 3 } }

def scanBody : List Byte := [15, 1, 4, 0, 128, 0, 0, 0, 0xFF, 0xFF, 0, 1, 0, 0, 0, 0]

def scanJob : ScanJob :=
  { newScanJob (scanRequest scanBody) State.reset with phase := .capture, top := 0 }

def grayJob : GrayJob := { addr := 4096, count := 2, stored := 0, phase := .lines, outcome := none }

def scanning (w : ScanWork) (s : State) : State :=
  { s with scan := { s.scan with work := some w, lamp := .on, lineTimer := some 0 } }

def linesBody : List Byte := [1, 0, 0, 0, 0, 0, 64, 0, 0, 216, 0, 1, 0, 0, 0, 0, 0, 0, 0, 0, 0, 0, 0, 0]

def printJob (p : PrintPhase) : PrintJob :=
  { newPrintJob (printRequest 8192 linesBody) State.reset with phase := p, interval := 5000, top := 0 }

def printing (j : PrintJob) (s : State) : State := { s with print := { s.print with work := some j } }

def blockJob : SendBlockJob :=
  { mode := 3, addr := 4096, count := 2, last := true, fillOk := false, fillByte := 0, fetched := 2, offered := 1, sent := 1 }

def sending (w : SendWork) (s : State) : State := { s with modem := { s.modem with sendWork := some w } }

def linkUp (s : State) : State := { s with modem := { s.modem with linkUp := true, postedUp := true, linkTimer := some 1 } }

/-! ## Rest, as a check that runs -/

def scanRestsB (s : State) : Bool :=
  match s.scan.work with
  | some (.page j) => decide ((j.phase = .waitOwner → s.motion.d.claimable = false) ∧ (j.phase = .warmUp → s.scan.lamp ≠ .on)
      ∧ (j.phase = .paused → s.store.room < margin j.request.spl j.top) ∧ (j.phase = .closing → s.scan.buffers ≠ [])
      ∧ (s.motion.d.owner = .scan → s.motion.d.stepDue = some 0 → s.motion.d.issued ≠ 0))
  | some (.gray j) => decide ((j.phase = .waitOwner → s.motion.d.claimable = false) ∧ (j.phase = .warmUp → s.scan.lamp ≠ .on))
  | none => true

def pageEmpty (src : Source) (s : State) : Bool :=
  match src with
  | .page i => decide ((s.store.page i).state = .empty)
  | .lines _ _ _ => true

def printRestsB (s : State) : Bool :=
  match s.print.work with
  | some j => decide ((j.phase = .waitOwner → s.motion.p.claimable = false) ∧ (j.phase = .waitPage → pageEmpty j.request.source s = true)
      ∧ (j.phase = .supplySettle → s.print.supply = .on → s.print.tempFlag = false)
      ∧ (s.print.fetch = .waiting → sourceReady j.request.source s = false ∧ sourceLines j.request.source s = none)
      ∧ (j.phase = .printing ∨ j.phase = .lineWait → j.lineActive = false → outputEnded j s = false)
      ∧ (j.due = true → j.phase = .printing ∨ j.phase = .lineWait →
          s.print.lineStore = none ∧ (j.phase = .printing → s.print.fetch ≠ .waiting))
      ∧ (s.motion.p.owner = .print → s.motion.p.stepDue = some 0 → s.motion.p.issued ≠ 0))
  | none => true

def motionRestsB (c : ChannelId) (s : State) : Bool :=
  match s.job c with
  | some j => decide ((j.phase = .waitOwner → (s.channel c).owner = .scan ∨ (s.channel c).owner = .print)
      ∧ ((s.channel c).owner = .chain → j.phase.runs = true → (s.channel c).stepDue = some 0 → (s.channel c).issued ≠ 0))
  | none => true

def atRestB (s : State) : Bool :=
  decide (s.power.slot = .none ∧ s.power.state = .active ∧ s.store.unposted = none) && scanRestsB s && printRestsB s
    && motionRestsB .d s && motionRestsB .p s

theorem scanRests_of (s : State) (h : scanRestsB s = true) : scanRests s := by
  refine ⟨fun j e => ?_, fun j e => ?_⟩ <;> rw [scanRestsB, e] at h <;> exact of_decide_eq_true h

theorem printRests_of (s : State) (h : printRestsB s = true) : printRests s := by
  intro j e
  rw [printRestsB, e] at h
  obtain ⟨h1, h2, h3⟩ := of_decide_eq_true h
  refine ⟨h1, fun hp i hi => ?_, h3⟩
  have := h2 hp
  rw [hi] at this
  exact of_decide_eq_true this

theorem motionRests_of (c : ChannelId) (s : State) (h : motionRestsB c s = true) : motionRests c s := by
  intro j e
  rw [motionRestsB, e] at h
  exact of_decide_eq_true h

theorem atRest_of (s : State) (h : atRestB s = true) : atRest s := by
  simp only [atRestB, Bool.and_eq_true] at h
  obtain ⟨⟨⟨⟨h0, h1⟩, h2⟩, h3⟩, h4⟩ := h
  have h0 : s.power.slot = .none ∧ s.power.state = .active ∧ s.store.unposted = none := of_decide_eq_true h0
  exact ⟨h0, scanRests_of s h1, printRests_of s h2, motionRests_of .d s h3, motionRests_of .p s h4⟩

/-! ## Ill-formed commands are refused -/

def cycleAt (a : BitVec 24) (word : Bool) (x : HostAccess) : HostCycle := { addr := a, isWord := word, access := x }

theorem test_wf_followNudge_with_cut_bit : (Instr.followNudge 0x2001).wf = false := by decide
theorem test_wf_cut_without_cut_bit : (Instr.cut 0xC03F).wf = false := by decide
theorem test_wf_busError_wide_byte : (Instr.busError (cycleAt 0xFFFFF1 false (.write 0x100))).wf = false := by decide
theorem test_wf_dram_wide_byte : (Instr.hostDramAccess (cycleAt 0x41 false (.write 0x100))).wf = false := by decide
theorem test_wf_dram_odd_word : (Instr.hostDramAccess (cycleAt 0x41 true .read)).wf = false := by decide
theorem test_wf_dram_above_4MiB : (Instr.hostDramAccess (cycleAt 0x400000 true .read)).wf = false := by decide
theorem test_wf_line_short : (Instr.lineBoundary (List.replicate 1724 0)).wf = false := by rw [Instr.wf, List.length_replicate]; decide
theorem test_wf_line_not_by_four : (Instr.lineBoundary (List.replicate 1730 0)).wf = false := by rw [Instr.wf, List.length_replicate]; decide
theorem test_wf_line_long : (Instr.lineBoundary (List.replicate 4100 0)).wf = false := by rw [Instr.wf, List.length_replicate]; decide
theorem test_wf_line_good : (Instr.lineBoundary (List.replicate 1728 0)).wf = true := by rw [Instr.wf, List.length_replicate]; decide
theorem test_wf_cut_good : (Instr.cut 0x0101).wf = true := by decide

/-! ## Worked examples and tables of the spec -/

/-- The outcome's next state; State.reset where it stops. -/
def nextOf (o : Host.Outcome State Fault Refusal) : State :=
  match o with
  | .next t => t
  | .fault _ => State.reset
  | .refused _ => State.reset

/-- R158: the CRC of "123456789" is 0x29B1. -/
theorem test_crc_check_value :
    crcOf [0x31, 0x32, 0x33, 0x34, 0x35, 0x36, 0x37, 0x38, 0x39] = 0x29B1#16 := by decide

/-- Section 5.7.2: code 250 gives 800 µs with the cold table, code 150 gives 1250 µs. -/
theorem test_base_top : basePulse HeatTable.cold 250 = 800 ∧ basePulse HeatTable.cold 150 = 1250 := by decide

/-- Section 5.7.2: 2350 is clamped to 2000. -/
theorem test_base_clamp :
    basePulse { HeatTable.cold with energy := 2400 :: List.replicate 15 2300, maxPulse := 2000 } 8 = 2000 := by decide

/-- Section 5.7.3: base 400 with k_hot = k_warm = 12 gives 300, 0 and 100; the shift takes 864 µs at 2 MHz. -/
theorem test_equal_shares :
    (let h := { HeatTable.cold with kHot := 12, kWarm := 12, clockMHz := 2 }
     (durationA h 400, durationB h 400, durationC h 400, shiftTime h) = (300, 0, 100, 864)) := by decide

/-- Section 5.7.4: the groups are blocks 0, 1, 2 to 6 and 7. -/
theorem test_groups :
    groupWalk 200 [(0, 120), (1, 250), (2, 80), (3, 90), (4, 30), (5, 0), (6, 0), (7, 10)] none
      = [(0, 1), (1, 1), (2, 5), (7, 1)] := by decide

/-- Section 3.10.1: sample 401 of value 75 on an inverted tap of offset −6 has v = 174; section 3.10.2: gain 372 makes it 253. -/
theorem test_shading :
    tapValue { start := 2047, dir := -1, invert := true, offset := -6 } 75 = 174 ∧ shade 174 372 = 253 := by decide

/-- Section 3.10.3: margin(3) is 5 with spl 1. -/
theorem test_margin : margin 1 3 = 5 := by decide

/-- Section 2.9.1: after steps 1 to 5 of 6 the ramp index is 0, 1, 2, 1, 0. -/
theorem test_ramp_indices :
    (nextIndex 0 3 6 1 false, nextIndex 0 3 6 2 false, nextIndex 1 3 6 3 false, nextIndex 2 3 6 4 false,
      nextIndex 1 3 6 5 false) = (0, 1, 2, 1, 0) := by decide

/-- Section 2.9.2: a stop request at x = 3 takes 4 more steps. -/
theorem test_stop_steps : stopSteps 3 = 4 ∧ stopSteps 0 = 0 := by decide

/-- R37: a cut while the steps after an edge run, longer than the stopping steps, rests at once at index 0; after a stop request at x = 1 the
two steps stay (R24). -/
theorem test_cut_shortens :
    (let run := fun (x extra : Nat) (cuttable : Bool) => (running .d .off 2 x).motion.d.runOut extra cuttable
     ((run 0 1 true).stopRequest.profile.map Profile.planned = some 2)
       ∧ ((run 0 1 true).stopRequest.stepDue = none) ∧ ((run 1 2 false).stopRequest.profile.map Profile.planned = some 4)) := by
  decide

/-- Section 6.12.1: the fill count goes on from one fill byte to the next, and is 0 when an underrun begins. -/
theorem test_fill_count_goes_on :
    (let idle := fun (u : Bool) => (handshakeIdle { base with modem := { base.modem with runOpen := true, underrun := u, fillCount := 3 } }).modem
     (idle true).fillCount = 3 ∧ (idle false).fillCount = 0 ∧ (idle false).underrun = true) := by decide

/-- Section 1.9: a pool of 16 bands has a room of 256. -/
theorem test_pool_room : (PageStore.built 65536 16 14).roomNow = 256 := by decide

/-- Section 1.9: line 0 takes band 0, and the room is 255. -/
theorem test_first_line_room :
    ((PageStore.built 65536 16 14).assign 3 (Page.created (scanRequest scanBody))).map (fun a => (a.band, a.slot, a.store.roomNow))
      = some (0, 0, 255) := by decide

/-- R132: a word read of IDENT returns 0x0281. -/
theorem test_ident :
    (nextOf (exec (.hostDramAccess (cycleAt 0xFFFFF0 true .read)) base)).bus.result = .data 0x0281 := by decide

/-- R130: a write to IDENT ends with bus error. -/
theorem test_ident_write :
    (nextOf (exec (.busError (cycleAt 0xFFFFF0 true (.write 1))) base)).bus.result = .busError := by decide

/-- R140: NOTES loses the bits written 1. -/
theorem test_notes_clear :
    (nextOf (exec (.notesClear 0x101) { base with regs := { base.regs with notes := 0x103 } })).regs.notes = 2 := by decide

/-- R132: AREA is ignored while RUNNING and loaded while STOPPED. -/
theorem test_area_running : (nextOf (exec (.areaWrite 0x3FF) base)).regs.area = 0 := by decide
theorem test_area_stopped : (nextOf (exec (.areaWrite 0xFFFF) idle)).regs.area = 0x3FF := by decide

/-- R145: in ACTIVE and quiet, GO-DOZE enters DOZE at once and raises POWER. -/
theorem test_go_doze :
    (let t := nextOf (exec (.goDoze 0) base)
     (t.power.state, t.regs.notes) = (.doze, 0x100)) := by decide

/-- The refresh timer has expired. -/
def refreshing : State := { base with dram := { base.dram with refreshTimer := 0 } }

/-- R137: an expiry adds one to the count owed. -/
theorem test_refresh_owed : (nextOf (exec .refreshTimerExpiry refreshing)).dram.refreshOwed = 1 := by decide

/-- R138: an owed refresh comes before the host. -/
theorem test_refresh_first :
    (nextOf (exec .dramGrant { base with
      dram := { base.dram with refreshOwed := 1 }
      bus := { base.bus with cycle := some (cycleAt 0 true .read) } })).dram.grant = some .refresh := by decide

/-- R156: a high strap ends the boot as SKIPPED and releases HOST-RESET. -/
theorem test_boot_skip :
    (let t := nextOf (exec (.bootSkipSample true) State.reset)
     (t.boot.result, t.boot.hostReset) = (.skipped, false)) := by decide

/-- R155, R156: a cold reset from RUNNING leaves STOPPED. -/
theorem test_cold_reset : (nextOf (exec .coldReset base)).regs.engine = .stopped := by decide

/-- R38: a raw level unlike the accepted one begins the count. -/
theorem test_raw_change : (nextOf (exec (.sensorRawChange .key true) base)).motion.key.count = some 0 := by decide

/-- Section 2.9.1: step 1 leaves p and position 1 (stride 1) and index 0. -/
theorem test_first_step :
    (let s := (running .d .timedHold 0 0).updChannel .d fun c => { c with table := { c.table with stride := 1 } }
     let c := (nextOf (exec (.step .d) s)).motion.d
     (c.phase, c.position, c.ramp) = (1, 1, 0)) := by decide

/-- R116, R124: a record handed over has acted before a cut in that event; a SCAN PAGE in WAIT-OWNER then ends CUT. -/
theorem test_cut_handed :
    (nextOf (exec (.cut 0x100) (moving .d (handing .scan .scanPage scanBody base)))).chains.scan.taken.map (·.stage)
      = some (.ending .cut true) := by decide

/-- R34: a RELEASE in hand makes a HOLDING channel OFF. -/
theorem test_release :
    (nextOf (exec (.release .p) ((handing .paperMotion .release [] base).updChannel .p fun c => { c with state := .holding }))).motion.p.state
      = .off := by decide

/-- A step takes the front of the queue. -/
theorem test_queue_order :
    (nextOf (step { base with pending := [.notemaskWrite 5, .notemaskWrite 6] })).pending = [.notemaskWrite 6] := by decide

/-- The opcode table gives no row any bits. -/
theorem test_no_word : decodeTableWord 8 0 = none ∧ State.reset.withFetchWord 8 0 = State.reset := ⟨rfl, rfl⟩


/-- R157: the directory's read sends READ and address 0; R155: no host clock while the oscillator settles; R94: the head is idle. -/
theorem test_outputs :
    (romPort (State.reset.updBoot fun b => { b with state := .readingDirectory, reading := true })).header = [3, 0, 0, 0]
      ∧ hostClock (State.reset.updPower fun p => { p with oscTimer := some 128 }) = 0
      ∧ headOutputs State.reset = HeadOutputs.idle := by decide
/-! ## Witnesses: the hypotheses of each statement hold together in a concrete state -/

theorem witness_TickOnEmptyQueue :
    (base.pending = [] ∧ base.print.dueTimer ≠ some 0)
      ∧ (let s := { printing (printJob .printing) base with print := { (printing (printJob .printing) base).print with dueTimer := some 0 } }
         s.pending = [] ∧ s.print.dueTimer = some 0 ∧ s.print.work ≠ none) := by and_intros <;> first | rfl | decide

theorem witness_MemoryCanonicalKept : Memory.wf State.reset = true ∧ step State.reset = .next (tick State.reset) := ⟨rfl, rfl⟩

theorem witness_DramGeometryKept :
    State.reset.dram.installed = 1048576 ∧ 8 ≤ State.reset.dram.refreshInterval ∧ State.reset.dram.refreshInterval ≤ 31
      ∧ State.reset.dram.refreshRow < 1024 ∧ step State.reset = .next (tick State.reset) := by
  and_intros <;> first | rfl | decide

/-- A sleeping part, its memory in self-refresh, its wake timer at 0. -/
def asleep : State := { base with
  dram := { base.dram with selfRefresh := true }
  power := { base.power with state := .sleep, wakeTimer := some 0 }
  regs := { base.regs with wakeMask := 0x12 } }

/-- The same, WAKING with its oscillator settled. -/
def waking : State := { asleep with
  power := { asleep.power with state := .waking, wakeTimer := none, oscTimer := some 0, pendingCauses := 5 } }

theorem witness_SelfRefreshLawKept :
    (∀ s ∈ [base, asleep, waking],
      (s.power.state = .sleep ∨ s.power.state = .waking → s.dram.selfRefresh = true)
        ∧ (s.dram.selfRefresh = true → s.power.state = .sleep ∨ s.power.state = .waking ∨ s.power.oscTimer.isSome)
        ∧ (s.power.state = .waking → s.power.oscTimer.isSome) ∧ (s.power.state = .sleep → s.power.oscTimer = none)
        ∧ (s.power.oscTimer.isSome → s.power.state ≠ .waking →
            (s.power.state = .active ∨ s.power.state = .doze) ∧ s.boot.state = .awaitStrap ∧ s.boot.result = .none
              ∧ s.boot.hostReset = true))
      ∧ step asleep = .next (tick asleep) := ⟨by decide, rfl⟩

theorem witness_WrittenBytesReadBack : Memory.wf base = true ∧ 4 + 1 < base.dram.fitted := by decide

theorem witness_ColdResetChains :
    base.dram.grant = none ∧ State.reset.regs.engine = .stopped ∧ State.reset.chains = Chains.cold
      ∧ (∀ m, Instr.takenWriteComplete .scan ≠ .start m) ∧ (∀ c, Instr.takenWriteComplete .scan ≠ .busError c)
      ∧ (∀ c, Instr.takenWriteComplete .scan ≠ .hostDramAccess c) := by
  and_intros <;> first | rfl | (intro m h; cases h)

/-- The boot loader in its first section. -/
def loadingAt (es : List DirEntry) (got : Nat) (store staging : List Byte) (crc : BitVec 16) (asked : Nat) : State := { State.reset with
  boot := { State.reset.boot with
    state := .loading, entries := es, reading := true, got := got, store := store, staging := staging, crc := crc, asked := asked
    storeAddr := 4094 } }

def imageOf (n : Nat) (crc : BitVec 16) : DirEntry := { kind := 1, rom := 64, length := n, dest := 4094, crc := crc }

def tableEntry (kind n : Nat) : DirEntry := { kind := kind, rom := 64, length := n, dest := 0, crc := crcOf [0, 0, 0, 0] }

/-- The last burst of an image of two bytes has its grant. -/
def imageDone (more : List DirEntry) (crc : BitVec 16) : State :=
  let s := loadingAt (imageOf 2 crc :: more) 2 [1, 0] [] (crcOf [1, 0]) 2
  { s with dram := { s.dram with
      boot := [{ tag := .boot, addr := 4094, data := .write [1, 0], note := none }]
      grant := some (.engine .boot 4094 (.write [1, 0]) true) } }

theorem witness_BootSkipOutcome :
    (State.reset.boot.state = .awaitStrap ∧ State.reset.power.oscTimer = none ∧ base.boot.state ≠ .awaitStrap)
      ∧ (∀ st ∈ [[], [7#8]], (let s := loadingAt [imageOf 5 0] st.length st [] 0xFFFF#16 0
          s.boot.state = .loading ∧ s.boot.entries[s.boot.index]? = some (imageOf 5 0) ∧ s.power.state = .active
            ∧ s.boot.reading = true ∧ (imageOf 5 0).kind = 1 ∧ s.boot.got < (imageOf 5 0).length ∧ s.boot.store.length < 16
            ∧ s.boot.asked = 0 ∧ min (16 - s.boot.storeAddr % 16) (4094 + 5 - s.boot.storeAddr) = 2))
      ∧ 16 ≤ (loadingAt [imageOf 20 0] 16 (List.replicate 16 1) [] 0 0).boot.store.length
      ∧ (∀ k ∈ [2, 3, 4, 5], (let e := tableEntry k 4
          let s := loadingAt [e] 3 [] [0, 0, 0] (crcOf [0, 0, 0]) 0
          s.boot.entries[s.boot.index]? = some e ∧ s.boot.reading = true ∧ s.boot.got + 1 = e.length ∧ e.kind = k
            ∧ crcByte s.boot.crc 0 = e.crc ∧ crcByte s.boot.crc 1 ≠ e.crc))
      ∧ (scanPartSize (field [0, 0, 0, 0] 0 1) = 4 ∧ (scanTablesOf ScanTables.cold [0, 0, 0, 0]).isSome = true
          ∧ heatTableOf [0, 0, 0, 0] = none ∧ motorTableOf [0, 0, 0, 0] = none)
      ∧ (∀ s ∈ [imageDone [] (crcOf [1, 0]), imageDone [imageOf 5 0] (crcOf [1, 0]), imageDone [tableEntry 6 4] (crcOf [1, 0]),
            imageDone [] 0], s.boot.got = 2 ∧ s.boot.asked = s.boot.store.length ∧ s.boot.store ≠ []
          ∧ s.dram.boot = [{ tag := .boot, addr := s.boot.storeAddr, data := .write s.boot.store, note := none }]
          ∧ s.dram.grant = some (.engine .boot s.boot.storeAddr (.write s.boot.store) true))
      ∧ (imageDone [] 0).boot.crc ≠ 0 := by
  and_intros <;> first | rfl | decide +kernel

/-- The boot loader reading the directory, the bytes given read so far. -/
def booting (dir : List Byte) : State := { State.reset with
  boot := { State.reset.boot with
    state := .readingDirectory, reading := true, directory := dir, crc := crcOf dir } }

/-- A directory of one section of the kind given, without its last CRC byte. -/
def directoryOf (size refresh kind : Byte) : List Byte := [0x52, 0x42, 1, 1, size, refresh, kind, 0, 1, 0, 0, 0, 5, 0, 16, 0, 0, 0]

def nearEnd (d : List Byte) : State := { booting (d ++ [(crcOf d).extractLsb' 8 8]) with
  boot := { (booting (d ++ [(crcOf d).extractLsb' 8 8])).boot with crc := crcOf d } }

theorem witness_RomByteDirectory :
    (∀ d ∈ [[], [0x52#8, 0x42, 1, 1]], (booting d).boot.state = .readingDirectory ∧ (booting d).boot.reading = true
        ∧ (booting d).boot.directory.length + 1 < 6 ∧ (booting d).boot.directory.length ≠ 1)
      ∧ (booting [0x52]).boot.directory = [0x52]
      ∧ (let d : List Byte := [0x52, 0x42, 1, 8, 1] ++ [31]
         d.length = 6 ∧ field d 2 1 = 1 ∧ 1 ≤ field d 3 1 ∧ field d 3 1 ≤ 8 ∧ 8 < field (d.set 3 9) 3 1
          ∧ field (d.set 3 0) 3 1 = 0 ∧ field (d.set 2 2) 2 1 ≠ 1)
      ∧ (let d := directoryOf 1 8 1
         6 < d.length ∧ d.length < 8 + 12 * field d 3 1)
      ∧ (∀ d ∈ [directoryOf 1 8 1, directoryOf 3 31 5, directoryOf 3 31 6], (let s := nearEnd d
          let e := s.boot.directory ++ [(crcOf d).extractLsb' 0 8]
          e.length = 8 + 12 * field e 3 1 ∧ s.boot.crc = BitVec.ofNat 16 (field e (6 + 12 * field e 3 1) 2)
            ∧ 1 ≤ field e 4 1 ∧ field e 4 1 ≤ 3 ∧ 8 ≤ field e 5 1 ∧ field e 5 1 ≤ 31))
      ∧ field (directoryOf 0 7 1) 4 1 < 1 ∧ 3 < field (directoryOf 4 32 1) 4 1 ∧ field (directoryOf 0 7 1) 5 1 < 8
      ∧ 31 < field (directoryOf 4 32 1) 5 1 ∧ field (directoryOf 3 31 5) 6 1 ≤ 5 ∧ 5 < field (directoryOf 3 31 6) 6 1 := by
  and_intros <;> first | rfl | decide +kernel

/-- A failed boot of 2 pulses. -/
def failedBoot (edge : Nat) (out : Bool) : State := { State.reset with
  boot := { State.reset.boot with
    state := .failed, result := .failure .badDirectory, blinkEdge := edge, faultOut := out, blinkTimer := some 0 } }

theorem witness_BlinkEdges :
    (∀ s ∈ [failedBoot 0 true, failedBoot 1 true, failedBoot 2 false],
      s.boot.result = .failure .badDirectory ∧ s.boot.blinkTimer = some 0)
      ∧ State.reset.boot.blinkTimer ≠ some 0 := by decide

theorem witness_PwrctlPlainCommands : hostFree base := by and_intros <;> first | rfl | decide

/-- A part in DOZE with SLEEP armed. -/
def dozing : State := { base with power := { base.power with state := .doze, slot := .sleep, idleTimer := 9 } }

/-- A SCAN PAGE in work, so not quiet. -/
def atWork : State := scanning (.page scanJob) (taken .scan (record .scanPage scanBody .working) base)

theorem witness_GoDozeActs :
    (hostFree dozing ∧ dozing.power.state = .doze) ∧ (hostFree atWork ∧ atWork.power.state = .active ∧ quiet atWork = false)
      ∧ (hostFree base ∧ base.power.state = .active ∧ quiet base = true) := by and_intros <;> first | rfl | decide

theorem witness_GoSleepActs :
    (hostFree atWork ∧ idleForSleep atWork = false) ∧ (hostFree base ∧ idleForSleep base = true ∧ drained base = true) := by
  and_intros <;> first | rfl | decide

/-- A setup block at address 0: pool base, bands and low-water mark as given; three limits of 0. -/
def setupBytes (p1 p2 p3 b0 b1 mark : Byte) : List Byte :=
  [0, p1, p2, p3, b0, b1, 0, mark, 7, 0, 0x2A, 0, 0, 9, 0, 0, 1, 0, 0, 0, 0, 0, 2, 1]

def beforeStart (p1 p2 p3 b0 b1 mark : Byte) : State := writeBytes idle 0 (setupBytes p1 p2 p3 b0 b1 mark)

/-- Pool 4096 with 16 bands, mark 16; and the last place for 16 bands in a memory of 1 MiB. -/
theorem witness_StartAccepted :
    ∀ s ∈ [beforeStart 0 16 0 0 16 16, beforeStart 0xF 0x28 0 0 16 0],
      (hostRuns s = true ∧ s.bus.cycle = none) ∧ s.regs.engine = .stopped ∧ s.power.slot = .none
        ∧ areaBase s + 4096 ≤ s.dram.installed ∧ s.dram.installed ≤ s.dram.fitted ∧ Memory.wf s = true
        ∧ (let f := fun o n => field (readBytes s (areaBase s) 64) o n
           let pool := f 0 4 % 16777216
           16 ≤ f 4 2 ∧ f 4 2 ≤ 512 ∧ pool % 4 = 0 ∧ pool + 3456 * f 4 2 ≤ s.dram.installed ∧ areaBase s + 4096 ≤ pool
            ∧ f 6 2 ≤ f 4 2) := by decide +kernel

/-- AREA 256: a control area that begins where a memory of 1 MiB ends. -/
def beyond : State := { idle with regs := { idle.regs with area := 256 } }

theorem witness_StartRefusedOrIgnored :
    (hostFree base ∧ base.regs.engine ≠ .stopped)
      ∧ (hostFree beyond ∧ beyond.regs.engine = .stopped ∧ beyond.power.slot = .none
          ∧ beyond.dram.installed < areaBase beyond + 4096)
      ∧ (∀ s ∈ [beforeStart 0 16 0 0 15 0, beforeStart 0 16 0 2 1 0, beforeStart 0 16 2 0 16 0, beforeStart 0xF 0x28 4 0 16 0,
            beforeStart 0 15 0xFC 0 16 0, beforeStart 0 16 0 0 16 17],
          s.regs.engine = .stopped ∧ s.power.slot = .none ∧ areaBase s + 4096 ≤ s.dram.installed
            ∧ s.dram.installed ≤ s.dram.fitted
            ∧ (let f := fun o n => field (readBytes s (areaBase s) 64) o n
               let pool := f 0 4 % 16777216
               f 4 2 < 16 ∨ 512 < f 4 2 ∨ pool % 4 ≠ 0 ∨ s.dram.installed < pool + 3456 * f 4 2
                ∨ (areaBase s < pool + 3456 * f 4 2 ∧ pool < areaBase s + 4096) ∨ f 4 2 < f 6 2)) := by
  refine ⟨⟨⟨rfl, rfl⟩, by decide⟩, ⟨⟨rfl, rfl⟩, rfl, rfl, by decide⟩, by decide +kernel⟩

def supplied (s : State) : State := { s with print := { s.print with supply := .on } }

theorem witness_EngineResetStopsEngines :
    (∀ s ∈ [linkUp atWork, atWork, handing .scan .scanPage scanBody base], s.regs.engine = .running ∧ s.dram.grant = none
        ∧ (s.chain .scan).taken ≠ none)
      ∧ (∀ e r, (atWork.chain e).taken = some r → r.stage ≠ .handed)
      ∧ atWork.scan.lamp ≠ .off ∧ (supplied base).print.supply ≠ .off
      ∧ (supplied base).regs.engine = .running ∧ (supplied base).dram.grant = none ∧ hostFree (supplied base)
      ∧ hostFree (linkUp atWork) ∧ hostFree atWork ∧ (linkUp atWork).modem.linkUp = true ∧ atWork.modem.linkUp = false := by
  refine ⟨by decide, ?_, by decide, by decide, rfl, rfl, ⟨rfl, rfl⟩, ⟨rfl, rfl⟩, ⟨rfl, rfl⟩, rfl, rfl⟩
  intro e r h
  cases e <;> cases h <;> decide

theorem witness_EngineResetCompletes :
    (let s := written .chain .stopped 160 [0] { base with regs := { base.regs with engine := .resetting } }
     s.regs.engine = .resetting ∧ s.power.slot = .none ∧ s.power.state ≠ .enteringSleep ∧ lastWrite .chain .stopped 160 [0] [] s) :=
  ⟨rfl, rfl, by decide, rfl, rfl⟩

/-- The SEND chain at rest, the PRINT chain following. -/
def resting (st : ChainState) (cursor : Nat) : State :=
  withChain .send { Chain.cold with state := st, cursor := cursor } (following .print (.link .fromEmpty) base)

theorem witness_FollowNudgeActs :
    cutBits 6 = 0 ∧ hostFree (resting .empty 0) ∧ calm (resting .empty 0) ∧ (resting .empty 0).regs.engine = .running
      ∧ ((resting .empty 0).chain .send).state = .empty ∧ ((resting .empty 0).chain .print).state = .busy
      ∧ hostFree (resting .parked 64) ∧ calm (resting .parked 64) ∧ ((resting .parked 64).chain .send).state = .parked
      ∧ hostFree (resting .halted 0) ∧ calm (resting .halted 0) ∧ ((resting .halted 0).chain .send).state = .halted
      ∧ ((resting .halted 64).chain .send).cursor = 64 := by
  and_intros <;> first | rfl | decide

theorem witness_NudgeClearsRequest :
    hostFree dozing ∧ hostFree atWork
      ∧ (let s := { dozing with regs := { dozing.regs with engine := .stopped } }
         hostFree s ∧ s.regs.engine = .stopped ∧ s.scan.work = none ∧ s.print.work = none ∧ s.motion.jobD = none
          ∧ s.motion.jobP = none ∧ s.store.unposted = none) := by and_intros <;> first | rfl | decide

/-- A good heat table part: 16 entries of 1000, pulses 0 to 4095, k_hot 1, k_warm 16, dot limit 1728, 4 MHz, settle 1 ms, linger 1 s,
T_stop 255, T_resume 254, overheat 1 s, cool time 0. -/
def heatBody : List Byte :=
  (List.replicate 16 [0x03#8, 0xE8#8]).flatten ++ [0, 0, 0x0F, 0xFF, 1, 16, 0x06, 0xC0, 4, 1, 1, 255, 254, 1, 0, 0]

/-- A CONDITION WAIT in work on the SEND chain. -/
def waitWork : State :=
  let s := taken .send (record .conditionWait [] .working) (sending (.wait 15 1 0 9) base)
  { s with modem := { s.modem with waitTimer := some 0 } }

def receiveJob (count : Nat) : ReceiveJob := { addr := 4096, length := 5, count := count, outcome := none }

/-- A RECEIVE BUFFER in work, with a byte in the latch or not. -/
def bufferWork (latch : Option (Byte × Bool)) : State :=
  let s := taken .receive (record .receiveBuffer [] .working) base
  { s with modem := { s.modem with receiveWork := some (receiveJob 1), latch := latch } }

theorem witness_CutActs :
    (hostFree base ∧ calm base ∧ base.regs.engine = .running ∧ inWork base .scan = none)
      ∧ (let s := withChain .send { waitWork.chains.send with cutPending := true } waitWork
         hostFree s ∧ calm s ∧ (s.chain .send).cutPending = true
          ∧ (s.chain .send).taken = some (record .conditionWait [] .working))
      ∧ (∀ b ∈ [heatBody, []], (let s := handing .print .heatTableLoad b base
          (s.chain .print).taken = some (record .heatTableLoad b .handed) ∧ (s.chain .print).cutPending = false))
      ∧ calm (handing .print .heatTableLoad [] base) ∧ (heatTableOf heatBody).isSome = true ∧ heatTableOf [] = none
      ∧ (let s := linkUp (handing .send .conditionWait [15, 1, 0, 9] base)
         calm s ∧ justHanded .send .conditionWait (record .conditionWait [15, 1, 0, 9] .handed) s
          ∧ conditionRequest [15, 1, 0, 9] = some (15, 1, 9) ∧ s.modem.linkUp = true ∧ s.modem.code &&& 15 ≠ 1)
      ∧ (hostFree waitWork ∧ calm waitWork
          ∧ (waitWork.chain .send).taken = some (record .conditionWait [] .working)
          ∧ (waitWork.chain .send).cutPending = false ∧ waitWork.modem.sendWork = some (.wait 15 1 0 9))
      ∧ (let s := sending (.block blockJob) (taken .send (record .sendBlock [] .working) base)
         calm s ∧ (s.chain .send).taken = some (record .sendBlock [] .working) ∧ s.modem.sendWork = some (.block blockJob))
      ∧ (calm (bufferWork none) ∧ (bufferWork none).modem.receiveWork = some (receiveJob 1)
          ∧ ((bufferWork none).chain .receive).taken = some (record .receiveBuffer [] .working)
          ∧ (bufferWork none).modem.latch = none ∧ calm (bufferWork (some (7, false)))
          ∧ (bufferWork (some (7, false))).modem.latch ≠ none) := by
  and_intros <;> first | rfl | decide

/-- The profile of `running` after the steps given. -/
def profileAt (issued : Nat) : Profile := { planned := 5, issued := issued, forward := true, top := 3 }

/-- A SCAN PAGE in the phase given, its channel moving, after the steps given with the index given. -/
def scanMoving (p : ScanPhase) (issued ramp : Nat) : State :=
  (scanning (.page { scanJob with phase := p }) { (taken .scan (record .scanPage scanBody .working) base) with store := pooled.store }).updChannel
    .d fun c => { c with
      state := .stepping, owner := .scan, ramp := ramp, stepDue := some 4, lastStep := some 0, floor := some 1250
      profile := some (profileAt issued) }

def scanJobIn (p : ScanPhase) : ScanJob := { scanJob with phase := p }

/-- A SCAN PAGE waiting for channel D, which a motion record moves. -/
def scanWaiting : State :=
  (moving .d (scanning (.page (scanJobIn .waitOwner)) (taken .scan (record .scanPage scanBody .working) base)))

/-- A SCAN PAGE in PAUSED with a buffer to write and no room. -/
def scanPaused : State :=
  let s := scanning (.page (scanJobIn .paused)) (taken .scan (record .scanPage scanBody .working) base)
  { s with scan := { s.scan with buffers := [0] } }.updChannel .d fun c => { c with state := .holding, owner := .scan }

/-- A PRINT PAGE from LINES between lines, or with a line active. -/
def printAt (p : PrintPhase) (active : Bool) : State :=
  owned .print .p (printing { printJob p with lineActive := active, due := false } (taken .print (record .printPage linesBody .working) base))

theorem witness_MoveCutStops :
    (let s := running .p .off 1 1
     hostFree s ∧ s.regs.engine = .running ∧ s.power.state = .active ∧ s.power.slot = .none ∧ s.store.unposted = none
      ∧ s.scan.work = none ∧ s.print.work = none ∧ s.job .d = none
      ∧ s.job .p = some { request := .move 5 true 0 .off, phase := .running }
      ∧ (s.chain .paperMotion).taken = some (record .move [] .working) ∧ (s.chain .paperMotion).cutPending = false
      ∧ (s.channel .p).owner = .chain ∧ (s.channel .p).state = .stepping ∧ (s.channel .p).profile = some (profileAt 1)
      ∧ 1 ≤ (profileAt 1).issued ∧ 0 < (s.channel .p).ramp)
      ∧ (hostFree scanWaiting ∧ atRest scanWaiting ∧ scanWaiting.print.work = none ∧ scanWaiting.motion.jobD = none
          ∧ scanWaiting.scan.work = some (.page (scanJobIn .waitOwner))
          ∧ (scanWaiting.chain .scan).taken = some (record .scanPage scanBody .working))
      ∧ atRest (scanMoving .feed 1 1) ∧ atRest (scanMoving .leadIn 1 1) ∧ atRest (scanMoving .capture 1 1)
      ∧ atRest (scanMoving .trail 1 1) ∧ hostFree (scanMoving .feed 1 1)
      ∧ (∀ p ∈ [ScanPhase.feed, .leadIn, .capture, .trail], (let s := scanMoving p 1 1
          s.scan.work = some (.page (scanJobIn p)) ∧ s.motion.d.state = .stepping ∧ s.motion.d.profile = some (profileAt 1)
            ∧ 0 < s.motion.d.ramp ∧ (s.chain .scan).cutPending = false))
      ∧ (atRest scanPaused ∧ scanPaused.scan.work = some (.page (scanJobIn .paused)) ∧ scanPaused.motion.d.state = .holding
          ∧ scanPaused.scan.buffers ≠ [])
      ∧ (∀ p ∈ [PrintPhase.supplySettle, .lineWait, .heatWait, .printing], (let s := printAt p false
          (s.chain .print).taken = some (record .printPage linesBody .working) ∧ (s.chain .print).cutPending = false
            ∧ s.scan.work = none ∧ (s.print.work.map (·.phase)) = some p ∧ (printJob p).request.source = .lines 16384 216 1))
      ∧ plain (printAt .lineWait false) ∧ hostFree (printAt .lineWait false) ∧ atRest (printAt .printing true) := by
  (with_reducible and_intros) <;> first | exact atRest_of _ (by decide) | rfl | decide | (and_intros <;> rfl)

theorem witness_NoteRegisterWrites :
    (hostFree idle ∧ idle.regs.engine = .stopped) ∧ (hostFree base ∧ base.regs.engine ≠ .stopped) := by and_intros <;> first | rfl | decide

/-- Page 15 COMPLETE with a chain of two bands, without FILL. -/
def kept (print keep : Bool) : State :=
  let st := { pooled.store with head := some 2, count := 14, room := 224 }
  let st := (st.setBand 0 { state := .full, page := 15, lines := 16, next := some 1 }).setBand 1
    { state := .full, page := 15, lines := 16, next := none }
  let page : Page :=
    { state := .complete, fill := false, print := print, keep := keep, lines := 32, base := 0, first := some 0
      last := some 1, count := 2, spl := 4, cause := .length }
  { pooled with store := st.setPage 15 page }

/-- A pool of three bands with the free list and the one-band or empty chain of page 15 given. -/
def smallPool (free : List Nat) (band : Option Band) : PageStore :=
  let st := PageStore.built 4096 3 1
  let st := free.zipIdx.foldl (fun st b => st.setBand b.1 { state := .free, page := 0, lines := 0, next := free[b.2 + 1]? }) st
  let st := { st with head := free.head?, tail := free.getLast?, count := free.length }
  match band with
  | none => st
  | some b => (st.setBand 2 b).setPage 15 { Page.blank .none with first := some 2, last := some 2, count := 1 }

def bandOf15 (state : BandState) (lines : Nat) : Band := { state := state, page := 15, lines := lines, next := none }

/-- `freeList` and `pageChain` at a list of up to two bands are checks of each index. -/
theorem freeList_two (st : PageStore) (a b : Nat) (h : st.count = 2 ∧ st.head = some a ∧ st.tail = some b ∧ a ≠ b
    ∧ a < st.bands.length ∧ b < st.bands.length ∧ st.band a = { state := .free, page := 0, lines := 0, next := some b }
    ∧ st.band b = { state := .free, page := 0, lines := 0, next := none }) : freeList st [a, b] := by
  obtain ⟨h1, h2, h3, h4, h5, h6, h7, h8⟩ := h
  refine ⟨h1, h2, h3, by simpa using h4, fun n x e => ?_⟩
  match n, e with
  | 0, e => cases e; exact ⟨h5, h7⟩
  | 1, e => cases e; exact ⟨h6, h8⟩

theorem freeList_none (st : PageStore) (h : st.count = 0 ∧ st.head = none ∧ st.tail = none) : freeList st [] :=
  ⟨h.1, h.2.1, h.2.2, List.nodup_nil, fun n x e => by cases n <;> cases e⟩

theorem pageChain_one (st : PageStore) (i b : Nat) (h : (st.page i).count = 1 ∧ (st.page i).first = some b ∧ (st.page i).last = some b
    ∧ b < st.bands.length ∧ (st.band b).page = i ∧ (st.band b).state ≠ .free ∧ (st.band b).next = none) : pageChain st i [b] := by
  obtain ⟨h1, h2, h3, h4, h5, h6, h7⟩ := h
  refine ⟨h1, h2, h3, by simp, fun n x e => ?_⟩
  match n, e with
  | 0, e => cases e; exact ⟨h4, h5, h6, h7⟩

theorem witness_PagedropActs :
    (∀ s ∈ [kept true true, kept false true, kept true false],
      hostFree s ∧ s.store.pages.length = 16 ∧ s.regs.engine = .running ∧ (0x10#16).toNat = 16 ∧ calm s)
      ∧ ((kept true true).store.page 15).keep = true ∧ ((kept true true).store.page 15).print = true
      ∧ ((kept false true).store.page 15).fill = false ∧ ((kept false true).store.page 15).print = false
      ∧ (kept false true).store.walk (some 0) 2 ≠ [] ∧ ((kept true false).store.page 15).keep = false
      ∧ freeList (smallPool [] none) []
      ∧ (let st := smallPool [0, 1] (some (bandOf15 .full 16))
         freeList st [0, 1] ∧ pageChain st 15 [2] ∧ 2 ∉ [0, 1] ∧ 2 < st.bands.length ∧ 15 < st.pages.length
          ∧ (st.band 2).state = .full)
      ∧ (∀ n ∈ [14, 15], (let st := smallPool [0, 1] (some (bandOf15 .filling n))
          (st.band 2).state = .filling ∧ (st.band 2).lines = n ∧ (st.page 15).last = some 2))
      ∧ pageChain (smallPool [0, 1] (some (bandOf15 .filling 15))) 15 ([] ++ [2]) := by
  refine ⟨?_, by (with_reducible and_intros) <;> first
    | rfl | decide | exact freeList_none _ (by decide) | exact freeList_two _ _ _ (by decide) | exact pageChain_one _ _ _ (by decide)⟩
  intro s hs
  simp only [List.mem_cons, List.not_mem_nil, or_false] at hs
  obtain rfl | rfl | rfl := hs <;> and_intros <;> first | rfl | decide

theorem witness_BusErrorCycles :
    hostFree base ∧ base.dram.installed ≤ 4194304
      ∧ (0x45#24).toNat % 2 = 1 ∧ base.dram.installed ≤ (0x100000#24).toNat ∧ (0xFFFFFE#24).toNat ≥ 0xFFFFFE
      ∧ (0xFFFFF1#24).toNat < 0xFFFFF2 ∧ (0xFFFFFD#24).toNat < 0xFFFFFE ∧ (0xFFFFF#24).toNat < base.dram.installed := by
  and_intros <;> first | rfl | decide

/-- A host read of the first word of a snapshot has been made. -/
def snapped : State := { base with
  bus := { base.bus with snapshot := some (0x40, [0, 1, 2, 3, 4, 5, 6, 7, 8, 9, 10, 11, 12, 13, 14, 15]), follows := some 0x4E } }

/-- PWRCTL after a good boot of 8 sections, in DOZE with SLEEP armed, RUNNING, the mask full. -/
def pwrctlOf : State := { dozing with
  boot := { dozing.boot with result := .ok 8 }, regs := { dozing.regs with wakeMask := 31 } }

theorem witness_HostCycleTaken :
    (hostFree base ∧ base.dram.installed ≤ 4194304 ∧ (0xFFFFE#24).toNat < base.dram.installed
        ∧ (0xFFFFE#24).toNat % 2 = 0 ∧ base.bus.follows ≠ some 0xFFFFE)
      ∧ (hostFree snapped ∧ (0x4E#24).toNat < snapped.dram.installed
          ∧ snapped.bus.snapshot = some (0x40, [0, 1, 2, 3, 4, 5, 6, 7, 8, 9, 10, 11, 12, 13, 14, 15])
          ∧ snapped.bus.follows = some 0x4E ∧ (0x4E#24).toNat / 16 * 16 = 0x40 ∧ areaBase snapped ≤ 0x4E
          ∧ 0x4E < areaBase snapped + 4096 ∧ snapped.bus.follows ≠ some 0x50)
      ∧ ((0xFFFFF6#24).toNat = 0xFFFFF6 ∧ (cycleAt 0xFFFFF6 true .read).isWord = true
          ∧ (cycleAt 0xFFFFF7 false .read).isWord = false ∧ (0xFFFFF7#24).toNat = 0xFFFFF6 + 1)
      ∧ (let v := 0x1F8B#16
         (∀ s ∈ [pwrctlOf], v.getLsbD 0 = decide (s.power.state = .doze) ∧ v.getLsbD 1 = decide (s.regs.engine ≠ .stopped)
          ∧ v.extractLsb' 2 2 = 2#2 ∧ s.power.slot = .sleep ∧ v.extractLsb' 4 4 = BitVec.ofNat 4 8
          ∧ v.extractLsb' 8 5 = s.regs.wakeMask ∧ v.extractLsb' 13 3 = 0#3 ∧ s.boot.result = .ok 8)
         ∧ hostFree pwrctlOf ∧ base.boot.result = .skipped ∧ (0xF2#16).extractLsb' 4 4 = 15#4) := by
  and_intros <;> first | rfl | decide

/-- The CHAIN requester has a post, its burst granted or not. -/
def faultPost : Xfer := { tag := .post, addr := 161, data := .write [7], note := some .fault }

def asked : State := { base with dram := { base.dram with chain := [faultPost] } }

def holding (s : State) : State := { s with bus := { s.bus with cycle := some (cycleAt 0x1000 true .read), result := .waiting } }

theorem witness_GrantChoice :
    (∀ s ∈ [base, asked, holding base, holding asked, { asked with dram := { asked.dram with refreshOwed := 1, hostTookLast := false } },
        { asked with dram := { asked.dram with selfRefresh := true } }], s.dram.grant = none ∧ s.power.state = .active)
      ∧ base.dram.selfRefresh = false ∧ base.dram.hostTookLast = true ∧ asked.dram.refreshOwed = 0 ∧ (holding base).bus.cycle ≠ none
      ∧ (asked.dram.queue .chain).head? = some faultPost ∧ (asked.dram.queue .boot).head? = none := by decide

/-- A host cycle with its grant. -/
def granted (c : HostCycle) : State := { base with
  bus := { base.bus with cycle := some c, result := .waiting }, dram := { base.dram with grant := some .host } }

/-- A link read's last burst has its grant. -/
def linkLast : Xfer := { tag := .link .scan, addr := 64, data := .read 2 [0, 0], note := none }

def linkGranted : State := { following .scan (.link .fromEmpty) base with
  dram := { base.dram with chain := [linkLast, faultPost], hostTookLast := false, grant := some (.engine .chain 64 (.read 2) true) } }

theorem witness_GrantCompletes :
    (let s := { base with dram := { base.dram with grant := some .refresh, refreshOwed := 1, refreshRow := 1023 } }
     s.power.state = .active ∧ s.dram.selfRefresh = false ∧ s.dram.grant = some .refresh ∧ s.dram.refreshOwed = 1
      ∧ s.bus.cycle = none ∧ firstEngine s.dram = none)
      ∧ (∀ c ∈ [cycleAt 0xFFF true .read, cycleAt 0x1000 false .read, cycleAt 0xFFFFE true (.write 0x1234)],
          (granted c).power.state = .active ∧ (granted c).dram.selfRefresh = false ∧ (granted c).dram.grant = some .host
            ∧ (granted c).bus.cycle = some c ∧ (granted c).dram.refreshOwed = 0 ∧ firstEngine (granted c).dram = none)
      ∧ areaBase base + 0xFFF < areaBase base + 4096 ∧ 0xFFF / 16 * 16 + 16 ≤ base.dram.fitted
      ∧ 0x1000 + 1 ≤ base.dram.fitted ∧ asleep.dram.selfRefresh = true
      ∧ (refreshing.dram.refreshTimer = 0 ∧ refreshing.dram.selfRefresh = false ∧ refreshing.power.oscTimer = none
          ∧ refreshing.power.state = .active ∧ refreshing.bus.cycle = none)
      ∧ (linkGranted.power.state = .active ∧ linkGranted.dram.selfRefresh = false ∧ linkGranted.dram.hostTookLast = false
          ∧ linkGranted.dram.queue .chain = [linkLast, faultPost]
          ∧ linkLast.left = (linkLast.burst (linkGranted.dram.installed / 1024)).size
          ∧ linkGranted.dram.grant = some (.engine .chain linkLast.addr (linkLast.burst (linkGranted.dram.installed / 1024)) true)
          ∧ linkLast.tag = .link .scan) := by
  and_intros <;> first | rfl | decide

/-- A post of one byte with the FAULT note, its burst granted. -/
def posting : State := { base with
  dram := { base.dram with chain := [faultPost], grant := some (.engine .chain 161 (.write [7]) true) } }

theorem witness_NoteFollowsItsWrite :
    posting.power.state = .active ∧ posting.dram.selfRefresh = false ∧ posting.dram.refreshOwed = 0
      ∧ posting.bus.cycle = none ∧ faultPost.tag = .post ∧ faultPost.data = .write [7] ∧ posting.dram.boot = []
      ∧ posting.dram.scan = [] ∧ posting.dram.print = [] ∧ posting.dram.modem = [] ∧ posting.dram.chain = [faultPost]
      ∧ posting.dram.grant = some (.engine .chain faultPost.addr (.write [7]) true) := by and_intros <;> first | rfl | decide

/-- A follow whose link read is at its end. -/
def linkRead (o : Origin) (cursor : Nat) (bytes : List Byte) : State :=
  read .chain (.link .print) 64 bytes (withChain .print { Chain.cold with state := .busy, cursor := cursor, follow := .link o } base)

theorem witness_LinkReadActs :
    (calm (linkRead .fromEmpty 0 [9, 0, 0, 0]) ∧ (linkRead .fromEmpty 0 [9, 0, 0, 0]).regs.engine = .running
        ∧ ((linkRead .fromEmpty 0 [9, 0, 0, 0]).chain .print).follow = .link .fromEmpty
        ∧ lastRead .chain (.link .print) [9, 0, 0, 0] [] (linkRead .fromEmpty 0 [9, 0, 0, 0])
        ∧ beNat [9, 0, 0, 0] % 16777216 = 0)
      ∧ lastRead .chain (.link .print) [0, 15, 255, 244] [] (linkRead .fromHalted 64 [0, 15, 255, 244])
      ∧ ((linkRead .fromHalted 64 [0, 15, 255, 244]).chain .print).cursor ≠ 0
      ∧ beNat [0, 0x0F, 0xFF, 0xF4] % 16777216 + 11 < base.dram.installed
      ∧ base.dram.installed ≤ beNat [0, 0x0F, 0xFF, 0xF8] % 16777216 + 11 ∧ beNat [0, 0, 0x10, 2] % 16777216 % 4 ≠ 0 := by
  and_intros <;> first | rfl | decide | exact ⟨_, _, _, rfl, by decide, by decide⟩

/-- A follow whose header read is at its end. -/
def headerRead (link : Nat) (bytes : List Byte) : State :=
  read .chain (.header .docMotion) link bytes (following .docMotion (.header link) base)

def header (kind state : Byte) : List Byte := [0, 0, 0, 0, kind, 1, state, 0, 0, 0, 0, 0]

theorem witness_HeaderReadActs :
    (∀ h ∈ [header 10 1, header 0 0, header 16 0, header 9 0, header 10 0, header 12 0],
      (headerRead 1048552 h).regs.engine = .running ∧ ((headerRead 1048552 h).chain .docMotion).follow = .header 1048552)
      ∧ calm (headerRead 1048552 (header 10 0))
      ∧ lastRead .chain (.header .docMotion) (header 10 0) [] (headerRead 1048552 (header 10 0))
      ∧ field (header 10 1) 6 1 ≠ 0 ∧ kindOf (field (header 0 0) 4 1) = none ∧ kindOf (field (header 16 0) 4 1) = none
      ∧ kindOf (field (header 9 0) 4 1) = some .receiveBuffer ∧ kindBelongs .docMotion .receiveBuffer = false
      ∧ kindOf (field (header 10 0) 4 1) = some .move ∧ 1048552 + recordLength .move ≤ base.dram.installed
      ∧ base.dram.installed < 1048556 + recordLength .move ∧ recordLength .hold = 12 := by
  and_intros <;> first | rfl | decide | exact ⟨_, _, _, rfl, by decide, by decide⟩

theorem witness_RecordTaken :
    (let s := read .chain (.body .print) 76 [1, 2] (following .print (.body 64 .heatTableLoad true) base)
     s.power.state = .active ∧ (s.chain .print).follow = .body 64 .heatTableLoad true ∧ lastRead .chain (.body .print) [1, 2] [] s)
      ∧ (∀ v ∈ [Verdict.pass .heatTableLoad, .reject .badKind],
          (let s := written .chain (.taken .print) 70 [1] (following .print (.taken 64 v true []) base)
           s.power.state = .active ∧ s.regs.engine = .running ∧ (s.chain .print).follow = .taken 64 v true []
            ∧ s.dram.queue .chain = [{ tag := .taken .print, addr := 64 + 6, data := .write [1], note := none }])) := by
  and_intros <;> first | rfl | decide | exact ⟨_, _, _, rfl, by decide, by decide⟩

theorem witness_StateWriteEnds :
    ∀ p ∈ [true, false], (let r := record .sendBlock [] (.ending .done p)
     let s := written .chain (.state .send) (r.addr + 6) (be8 RecordOutcome.done.code) (taken .send r base)
     calm s ∧ s.regs.engine = .running ∧ (s.chain .send).taken = some r ∧ r.stage = .ending .done p
      ∧ lastWrite .chain (.state .send) (r.addr + 6) (be8 RecordOutcome.done.code) [] s) := by
  intro p _
  cases p <;> and_intros <;> first | rfl | decide

/-- A SCAN PAGE handed over, with a pool. -/
def scanAsked (b : List Byte) : State := { pooled with chains := (handing .scan .scanPage b base).chains }

/-- A motion record moves the channel. -/
def busyWith (c : ChannelId) (s : State) : State :=
  (s.setJob c (some (moveJob .timedHold))).updChannel c fun ch => { ch with
    state := .stepping, owner := .chain, stepDue := some 4, lastStep := some 0, profile := some (profileAt 1) }

theorem witness_ScanPageActs :
    (∀ b ∈ [scanBody, scanBody.set 0 16, scanBody.set 1 4, scanBody.set 2 3, scanBody.set 3 2, scanBody.set 11 0],
        ((scanAsked b).chain .scan).taken = some (record .scanPage b .handed) ∧ ((scanAsked b).chain .scan).cutPending = false)
      ∧ (let s := scanAsked scanBody
         atRest s ∧ s.scan.work = none ∧ justHanded .scan .scanPage (record .scanPage scanBody .handed) s
          ∧ field scanBody 0 1 = 15 ∧ field scanBody 1 1 % 4 ≠ 0 ∧ field scanBody 2 1 = 4 ∧ field scanBody 3 1 ≤ 1
          ∧ field scanBody 10 2 ≠ 0 ∧ (s.store.page 15).state = .empty ∧ s.motion.d.state = .off ∧ s.motion.d.owner = .none
          ∧ s.motion.d.stepDue = none ∧ s.level .coverOpen = false ∧ s.scan.lamp = .off
          ∧ 0 < s.scan.tables.geometry.warmMs ∧ (level .coverOpen s).level .coverOpen = true ∧ atRest (level .coverOpen s))
      ∧ field (scanBody.set 0 16) 0 1 = 16 ∧ field (scanBody.set 1 4) 1 1 % 4 = 0 ∧ field (scanBody.set 11 0) 10 2 = 0
      ∧ (let s := busyWith .d (scanAsked scanBody)
         atRest s ∧ s.motion.d.state = .stepping ∧ s.motion.d.owner = .chain ∧ s.motion.jobD ≠ none)
      ∧ (let s := { scanAsked scanBody with store := (kept true true).store }
         atRest s ∧ (s.store.page 15).state ≠ .empty) := by
  (with_reducible and_intros) <;> first | exact atRest_of _ (by decide) | rfl | decide | (and_intros <;> rfl)

/-- A GRAY CAPTURE of the rows given at the address given. -/
def grayBody (a2 a3 rows : Byte) : List Byte := [0, 0, a2, a3, rows, 0, 0, 0]

/-- A good GEOMETRY part with two taps, some bytes changed. -/
def geometryPart (changes : List (Nat × Byte)) : List Byte :=
  changes.foldl (fun l c => l.set c.1 c.2)
    ([4, 2, 0x06, 0xC0, 0x01, 0xF4, 0, 0, 0, 1, 10, 0, 0, 0, 1, 0, 0xE0, 0, 6, 0xBF, 0xFF, 1, 31, 0] ++ List.replicate 12 0)

theorem witness_GrayAndScanTables :
    (let h := fun b => handing .scan .grayCapture b base
     (let s := h (grayBody 16 0 16)
      atRest s ∧ s.scan.work = none ∧ justHanded .scan .grayCapture (record .grayCapture (grayBody 16 0 16) .handed) s
        ∧ addrField (grayBody 16 0 16) 0 = 4096 ∧ field (grayBody 16 0 16) 4 1 = 16 ∧ 4096 + 1728 * 16 ≤ base.dram.installed
        ∧ s.motion.d.state = .off ∧ s.motion.d.owner = .none ∧ s.level .coverOpen = false ∧ s.scan.lamp = .off
        ∧ 0 < s.scan.tables.geometry.warmMs)
      ∧ field (grayBody 16 0 17) 4 1 = 17 ∧ field (grayBody 16 0 0) 4 1 = 0 ∧ addrField (grayBody 16 2 1) 0 % 4 ≠ 0
      ∧ base.dram.installed < addrField [0, 15, 255, 0, 1, 0, 0, 0] 0 + 1728 * 1
      ∧ (let s := busyWith .d (h (grayBody 16 0 16))
         atRest s ∧ s.motion.d.state = .stepping ∧ s.motion.d.owner = .chain))
      ∧ (let s := handing .scan .scanTableLoad [0, 0, 0, 0] base
         atRest s ∧ justHanded .scan .scanTableLoad (record .scanTableLoad [0, 0, 0, 0] .handed) s
          ∧ scanTablesOf s.scan.tables [0, 0, 0, 0] = some s.scan.tables)
      ∧ (let b : List Byte := [2, 0, 0, 0, 2, 0, 0, 0]
         justHanded .scan .scanTableLoad (record .scanTableLoad b .handed) (handing .scan .scanTableLoad b base)
          ∧ scanTablesOf base.scan.tables b = none)
      ∧ (geometryOf (geometryPart [])).isSome = true
      ∧ (∀ c ∈ [[(0, 3#8)], [(1, 3#8)], [(2, 16#8), (3, 1#8)], [(3, 0xC1#8)], [(4, 0#8)], [(5, 0xF3#8)], [(7, 1#8)], [(14, 2#8)], [(16, 0xDF#8)],
            [(22, 32#8)], [(13, 0xBF#8), (12, 6#8)], [(14, 0xFF#8)]], geometryOf (geometryPart c) = none)
      ∧ (matrixOf (7 :: 3 :: List.replicate 66 0)).isSome = true ∧ matrixOf (2 :: List.replicate 67 0) = none
      ∧ 1023 < field [0x04#8, 0x00] 0 2 ∧ field [0x03#8, 0xFF] 0 2 ≤ 1023 := by
  (with_reducible and_intros) <;> first | exact atRest_of _ (by decide) | rfl | decide +kernel | (and_intros <;> rfl)

def pageBody : List Byte := (linesBody.set 0 0).set 1 15

/-- A PRINT PAGE handed over, with a pool, page 15 as given. -/
def printAsked (b : List Byte) (page : Page) : State :=
  let st := (pooled.store.setBand 0 { state := .full, page := 15, lines := 16, next := none }).setPage 15 page
  let st := { st with head := some 1, count := 15 }
  { pooled with chains := (handing .print .printPage b base).chains, store := { st with room := st.roomNow } }

def livePage (state : PageState) (base lines : Nat) (print : Bool) : Page :=
  { state := state, fill := true, print := print, keep := true, lines := lines, base := base, first := some 0, last := some 0, count := 1
    spl := 4, cause := .none }

theorem witness_PrintPageActs :
    (let s := printAsked linesBody (Page.blank .none)
     atRest s ∧ s.print.work = none ∧ s.print.fetch = .idle ∧ s.regs.engine = .running
      ∧ justHanded .print .printPage (record .printPage linesBody .handed) s ∧ s.motion.p.state = .off
      ∧ s.motion.p.owner = .none ∧ s.motion.p.stepDue = none ∧ s.level .coverOpen = false ∧ s.print.supply = .off
      ∧ 0 < s.print.heat.settleMs ∧ atRest (level .coverOpen s) ∧ (level .coverOpen s).level .coverOpen = true
      ∧ atRest (busyWith .p s) ∧ (busyWith .p s).motion.p.state = .stepping ∧ (busyWith .p s).motion.p.owner = .chain)
      ∧ (let f := fun o n => field linesBody o n
         f 0 1 = 1 ∧ addrField linesBody 4 % 4 = 0 ∧ f 8 2 = 216 ∧ f 8 2 % 4 = 0 ∧ 1 ≤ f 10 2 ∧ f 10 2 ≤ 8192 ∧ f 2 1 = 0
          ∧ addrField linesBody 4 + f 8 2 * (f 10 2 - 1) + 215 < base.dram.installed)
      ∧ (∀ b ∈ [linesBody.set 0 2, pageBody.set 1 16, linesBody.set 7 1, linesBody.set 9 215, (linesBody.set 8 255).set 9 253,
            linesBody.set 9 218, linesBody.set 11 0, (linesBody.set 10 32).set 11 1, ((linesBody.set 5 15).set 6 255).set 7 44,
            linesBody.set 2 1, (linesBody.set 2 1).set 3 65],
          (let f := fun o n => field b o n
           let addr := addrField b 4
           1 < f 0 1 ∨ (f 0 1 = 0 ∧ 16 ≤ f 1 1)
            ∨ (f 0 1 = 1 ∧ (addr % 4 ≠ 0 ∨ f 8 2 < 216 ∨ 65532 < f 8 2 ∨ f 8 2 % 4 ≠ 0 ∨ f 10 2 = 0 ∨ 8192 < f 10 2
                ∨ base.dram.installed ≤ addr + f 8 2 * (f 10 2 - 1) + 215))
            ∨ (f 2 1 ≠ 0 ∧ (f 3 1 = 0 ∨ 64 < f 3 1))))
      ∧ (let s := fun p => printAsked pageBody p
         atRest (s (Page.blank .none)) ∧ field pageBody 0 1 = 0 ∧ field pageBody 1 1 = 15
          ∧ ((s (Page.blank .none)).store.page 15).state = .empty
          ∧ atRest (s (livePage .filling 1 5 false)) ∧ ((s (livePage .filling 1 5 false)).store.page 15).base ≠ 0
          ∧ (∀ p ∈ [livePage .filling 0 5 false, livePage .complete 0 5 true, livePage .filling 0 0 false],
              (s p).store.page 15 = p ∧ 15 < (s p).store.pages.length ∧ (s p).store.room = (s p).store.roomNow
                ∧ (s p).print.supply = .off))
      ∧ (∀ p ∈ [livePage .filling 0 5 true, { livePage .complete 0 5 true with fill := false, keep := false }],
          p.print = true ∧ p.state ≠ .empty ∧ (p.fill = true ∨ (p.fill = false ∧ p.keep = false))) := by
  (with_reducible and_intros) <;> first | exact atRest_of _ (by decide) | rfl | decide | (and_intros <;> rfl)

/-- A good motor table part: 8 patterns, stride 1, a ramp of one interval. -/
def motorBody : List Byte := [1, 2, 3, 4, 5, 6, 7, 8, 1, 1, 0, 0] ++ (List.replicate 32 [0x03#8, 0xE8#8]).flatten

theorem witness_TableLoads :
    (let s := handing .print .heatTableLoad heatBody base
     atRest s ∧ s.print.work = none ∧ justHanded .print .heatTableLoad (record .heatTableLoad heatBody .handed) s
      ∧ (heatTableOf heatBody).isSome = true)
      ∧ (∀ c ∈ [[(30, 0x10#8)], [(32, 0x10#8)], [(34, 0x10#8)], [(36, 0#8)], [(37, 17#8)], [(36, 17#8)], [(38, 0#8), (39, 0#8)], [(39, 0xC1#8)],
            [(40, 3#8)], [(43, 0#8), (44, 0#8)], [(44, 255#8)], [(45, 0#8)]],
          heatTableOf (c.foldl (fun (l : List Byte) x => l.set x.1 x.2) heatBody) = none)
      ∧ (let s := handing .paperMotion .motorTableLoad motorBody base
         atRest s ∧ s.job .p = none ∧ justHanded (motionChain .p) .motorTableLoad (record .motorTableLoad motorBody .handed) s
          ∧ (motorTableOf motorBody).isSome = true ∧ (s.channel .p).owner = .none
          ∧ ((owned .print .p s).channel .p).owner = .print ∧ atRest (owned .print .p s))
      ∧ (∀ c ∈ [[(8, 0#8)], [(8, 3#8)], [(9, 0#8)], [(9, 33#8)], [(12, 0#8), (13, 99#8)]],
          motorTableOf (c.foldl (fun (l : List Byte) x => l.set x.1 x.2) motorBody) = none) := by
  (with_reducible and_intros) <;> first | exact atRest_of _ (by decide) | rfl | decide | (and_intros <;> rfl)

def blockBody (n1 n2 : Byte) : List Byte := [15, 1, 0, 0, 0, 0, 16, 0, n1, n2, 0, 0]

theorem witness_SendRecordsAct :
    (let h := fun b => handing .send .sendBlock b base
     calm (h (blockBody 0 1)) ∧ justHanded .send .sendBlock (record .sendBlock (blockBody 0 1) .handed) (h (blockBody 0 1))
      ∧ 1024 ≤ base.dram.installed ∧ field (blockBody 0 1) 0 1 ≤ 15 ∧ addrField (blockBody 0 1) 4 % 4 = 0
      ∧ 1 ≤ field (blockBody 0 1) 8 2 ∧ field (blockBody 0 0) 8 2 = 0 ∧ (h (blockBody 0 1)).modem.linkUp = false
      ∧ (linkUp (h (blockBody 0 1))).modem.linkUp = true ∧ (linkUp (h (blockBody 0 1))).modem.code ≠ 15
      ∧ calm (linkUp (h (blockBody 0 1))))
      ∧ (let s := handing .send .modeChange [15, 0, 0, 0] base
         calm s ∧ justHanded .send .modeChange (record .modeChange [15, 0, 0, 0] .handed) s ∧ field [15, 0, 0, 0] 0 1 ≤ 15
          ∧ 15 < field [16, 0, 0, 0] 0 1 ∧ calm (linkUp s) ∧ (linkUp s).modem.code ≠ 15
          ∧ (let f := { linkUp s with modem := { (linkUp s).modem with code := 15 } }
             calm f ∧ f.modem.linkUp = true ∧ f.modem.code = 15))
      ∧ (let s := handing .send .conditionWait [3, 1, 0, 9] base
         calm (linkUp s) ∧ justHanded .send .conditionWait (record .conditionWait [3, 1, 0, 9] .handed) (linkUp s)
          ∧ field [3, 1, 0, 9] 0 1 ≤ 15 ∧ field [3, 1, 0, 9] 1 1 ≤ 15 ∧ (1#4 &&& 3 = 1) ∧ (4#4 &&& 3 ≠ 4)
          ∧ (linkUp s).modem.code &&& 3 ≠ 1 ∧ (linkUp s).modem.code &&& 3 = 0) := by
  and_intros <;> first | rfl | decide

def receiveBody (n1 n2 : Byte) : List Byte := [0, 0, 16, 0, n1, n2, 0, 0]

theorem witness_ReceiveBufferActs :
    (let s := handing .receive .receiveBuffer (receiveBody 0 1) base
     calm s ∧ justHanded .receive .receiveBuffer (record .receiveBuffer (receiveBody 0 1) .handed) s
      ∧ addrField (receiveBody 0 1) 0 % 4 = 0 ∧ 1 ≤ field (receiveBody 0 1) 4 2 ∧ field (receiveBody 0 0) 4 2 = 0
      ∧ s.modem.linkUp = false ∧ (linkUp s).modem.linkUp = true ∧ (linkUp s).modem.code ≠ 15 ∧ calm (linkUp s)
      ∧ ({ (linkUp s).modem with code := 15 } : Modem).code = 15) := by and_intros <;> first | rfl | decide

/-- A MOVE of n steps with the direction and end action codes given. -/
def moveBody (n dir act : Byte) : List Byte := [0, n, dir, 3, act, 0, 0, 0, 0, 0, 0, 0]

def moveHanded (n dir act : Byte) : State := handing .docMotion .move (moveBody n dir act) base

theorem witness_MoveActs :
    (let s := owned .scan .d (moveHanded 1 1 2)
     atRest s ∧ s.job .d = none ∧ justHanded (motionChain .d) .move (record .move (moveBody 1 1 2) .handed) s
      ∧ (s.channel .d).owner = .scan ∧ 1 ≤ field (moveBody 1 1 2) 0 2 ∧ field (moveBody 1 1 2) 2 1 ≤ 1 ∧ field (moveBody 1 1 2) 4 1 ≤ 2)
      ∧ (∀ n ∈ [0#8, 1#8, 2#8], ((moveHanded n 1 1).chain .docMotion).taken = some (record .move (moveBody n 1 1) .handed)
        ∧ ((moveHanded n 1 1).chain .docMotion).cutPending = false)
      ∧ (let s := moveHanded 2 1 2
         calm s ∧ justHanded (motionChain .d) .move (record .move (moveBody 2 1 2) .handed) s
          ∧ 2 ≤ field (moveBody 2 1 2) 0 2 ∧ field (moveBody 2 1 2) 2 1 ≤ 1 ∧ field (moveBody 2 1 2) 4 1 ≤ 2
          ∧ (s.channel .d).owner = .none ∧ s.level .coverOpen = false ∧ (s.channel .d).lastStep = none
          ∧ (s.channel .d).floor = none ∧ calm (level .coverOpen s) ∧ (level .coverOpen s).level .coverOpen = true
          ∧ calm (stepped 0 .d s) ∧ ((stepped 0 .d s).channel .d).lastStep = some 0
          ∧ (stepped 0 .d s).now < 0 + (s.channel .d).table.interval 0)
      ∧ field (moveBody 1 1 1) 0 2 = 1 ∧ field (moveBody 1 1 1) 4 1 = 1 := by
  (with_reducible and_intros) <;> first | exact atRest_of _ (by decide) | rfl | decide | (and_intros <;> rfl)

/-- A MOVE TO EDGE of PAPER-PRESENT to its first level, limit 1, end action TIMED-HOLD. -/
def edgeBody : List Byte := [0, 1, 0, 0, 2, 1, 0, 1, 0, 0, 0, 0, 0, 0, 0, 0, 0, 0, 0, 0]

def edgeOf : EdgeRequest :=
  { limit := 1, after := 0, sensor := .paperPresent, target := true, forward := true, top := 1, action := .timedHold }

theorem witness_MoveToEdgeActs :
    (let s := handing .paperMotion .moveToEdge edgeBody base
     calm s ∧ justHanded (motionChain .p) .moveToEdge (record .moveToEdge edgeBody .handed) s
      ∧ (let f := fun o n => field edgeBody o n
         let e := edgeOf
         0 < f 0 2 ∧ e.limit = f 0 2 ∧ e.after = f 2 2 ∧ sensorIndex e.sensor = f 4 1 ∧ f 4 1 ≤ 2 ∧ f 5 1 ≤ 1
          ∧ e.target = decide (f 5 1 = 1) ∧ f 6 1 ≤ 1 ∧ e.forward = decide (f 6 1 = 0) ∧ e.top = f 7 1
          ∧ (match e.action with | .timedHold => 0 | .keepHold => 1 | .off => 2) = f 8 1)
      ∧ (s.channel .p).owner = .none ∧ s.level .coverOpen = false
      ∧ s.level .paperPresent ≠ true ∧ calm (level .paperPresent s) ∧ (level .paperPresent s).level .paperPresent = true
      ∧ edgeOf.after = 0 ∧ calm (level .coverOpen s) ∧ (level .coverOpen s).level .coverOpen = true
      ∧ calm (stepped 0 .p s) ∧ ((stepped 0 .p s).channel .p).lastStep = some 0 ∧ (s.channel .p).floor = none
      ∧ (stepped 0 .p s).now < 0 + (s.channel .p).table.interval 0
      ∧ 2 < field (edgeBody.set 4 3) 4 1 ∧ field (edgeBody.set 1 0) 0 2 = 0) := by and_intros <;> first | rfl | decide

theorem witness_HoldAndRelease :
    (let s := handing .docMotion .hold [] base
     calm s ∧ (s.channel .d).owner = .none ∧ justHanded (motionChain .d) .hold (record .hold [] .handed) s
      ∧ s.level .coverOpen = false ∧ calm (level .coverOpen s) ∧ (level .coverOpen s).level .coverOpen = true)
      ∧ (let s := handing .paperMotion .release [] base
         calm s ∧ (s.channel .p).owner = .none ∧ justHanded (motionChain .p) .release (record .release [] .handed) s) := by
  and_intros <;> first | rfl | decide

/-- A SENSOR WAIT for KEY at its first level, 7 ms. -/
def sensorBody : List Byte := [5, 1, 0, 7]

def sensorWaiting : State :=
  ((taken .docMotion (record .sensorWait sensorBody .working) base).setJob .d
    (some { request := .wait .key true 7, phase := .waiting 0 })).setWaitTimer .d (some 0)

theorem witness_SensorWaits :
    (let s := handing .docMotion .sensorWait sensorBody base
     calm s ∧ justHanded (motionChain .d) .sensorWait (record .sensorWait sensorBody .handed) s
      ∧ sensorIndex .key = field sensorBody 0 1 ∧ field sensorBody 1 1 ≤ 1 ∧ decide (field sensorBody 1 1 = 1) = true
      ∧ (s.channel .d).owner = .none ∧ s.level .key ≠ true ∧ calm (level .key s) ∧ (level .key s).level .key = true
      ∧ 5 < field (sensorBody.set 0 6) 0 1 ∧ 1 < field (sensorBody.set 1 2) 1 1)
      ∧ (atRest sensorWaiting
          ∧ sensorWaiting.job .d = some { request := .wait .key true 7, phase := .waiting 0 }
          ∧ sensorWaiting.waitTimer .d = some 0
          ∧ (sensorWaiting.chain (motionChain .d)).taken = some (record .sensorWait sensorBody .working))
      ∧ base.waitTimer .d ≠ some 0 := by
  (with_reducible and_intros) <;> first | exact atRest_of _ (by decide) | rfl | decide | (and_intros <;> rfl)

/-- A MOVE TO EDGE of DOC-READ, in the phase given, its channel in motion. -/
def edgeOfRead (after : Nat) (a : EndAction) : EdgeRequest :=
  { limit := 5, after := after, sensor := .docRead, target := true, forward := true, top := 1, action := a }

def searching (after : Nat) (ph : MotionPhase) (issued ramp : Nat) : State :=
  (running .d .off issued ramp).setJob .d (some { request := .edge (edgeOfRead after .off), phase := ph })

/-- A SCAN PAGE whose next step is due now. -/
def scanStep (p : ScanPhase) (issued ramp : Nat) (room : Nat) : State :=
  let s := (scanMoving p issued ramp).updChannel .d fun c => { c with stepDue := some 0 }
  { s with store := { s.store with room := room }, scan := { s.scan with bandLimit := 3 } }

theorem witness_StepActs :
    (∀ i ∈ [0, 3, 4],
      (let s := running .d .timedHold i 0
       s.store.unposted = none ∧ s.power.state = .active ∧ s.power.slot = .none ∧ s.job .p = none
        ∧ s.job .d = some { request := .move 5 true 0 .timedHold, phase := .running }
        ∧ (s.chain (motionChain .d)).taken = some (record .move [] .working)
        ∧ (s.chain (motionChain .d)).cutPending = false ∧ (s.channel .d).owner = .chain ∧ (s.channel .d).floor = none
        ∧ (s.channel .d).state = .stepping ∧ (s.channel .d).profile = some (profileAt i) ∧ (s.channel .d).stepDue = some 0))
      ∧ (running .d .timedHold 0 0).scan.work = none ∧ (running .d .timedHold 0 0).print.work = none
      ∧ (profileAt 0).issued + 1 < (profileAt 0).planned ∧ (profileAt 4).issued + 1 = (profileAt 4).planned
      ∧ (searching 0 .search 4 0).job .d = some { request := .edge (edgeOfRead 0 .off), phase := .search }
      ∧ (searching 0 (.afterEdge 2) 4 0).job .d = some { request := .edge (edgeOfRead 0 .off), phase := .afterEdge 2 }
      ∧ (∀ p ∈ [ScanPhase.feed, .leadIn, .capture, .runDown, .eject], ∀ i ∈ [1, 4],
          (let s := scanStep p i 0 200
           s.power.slot = .none ∧ s.power.state = .active ∧ s.store.unposted = none ∧ s.print.work = none ∧ s.motion.jobD = none
            ∧ s.motion.jobP = none ∧ s.scan.work = some (.page (scanJobIn p)) ∧ s.motion.d.owner = .scan
            ∧ s.motion.d.state = .stepping ∧ s.motion.d.profile = some (profileAt i) ∧ s.motion.d.stepDue = some 0
            ∧ (s.chain .scan).taken = some (record .scanPage scanBody .working)))
      ∧ (profileAt 1).forward = true ∧ (scanJobIn .feed).created = false ∧ (scanJobIn .leadIn).uncovered = false
      ∧ margin 4 1 ≤ 200 ∧ (scanJobIn .leadIn).request.leadIn ≤ (scanJobIn .leadIn).leadInDone + 1
      ∧ 0 + 1 < ({ (scanJobIn .leadIn).request with leadIn := 2 } : ScanRequest).leadIn
      ∧ (scanStep .capture 4 0 0).store.room < margin (scanJobIn .capture).request.spl (scanJobIn .capture).top
      ∧ 0 < (scanStep .capture 4 0 0).scan.bandLimit
      ∧ ({ scanStep .eject 4 0 200 with scan := { (scanStep .eject 4 0 200).scan with buffers := [0] } } : State).scan.buffers ≠ []
      ∧ (base.channel .d).stepDue ≠ some 0 ∧ (base.channel .p).state = .off := by
  (with_reducible and_intros) <;> first | rfl | decide | (and_intros <;> rfl)

theorem witness_StopRequestLaw :
    (let c := (running .d .off 2 1).motion.d
     c.profile = some (profileAt 2) ∧ c.state = .stepping ∧ 0 < c.ramp ∧ c.ramp ≤ (profileAt 2).top ∧ 1 ≤ (profileAt 2).issued)
      ∧ (running .d .off 2 0).motion.d.ramp = 0 ∧ (running .d .off 4 0).motion.d.profile = some (profileAt 4)
      ∧ (profileAt 4).planned = (profileAt 4).issued + 0 + 1 ∧ base.motion.d.state = .off
      ∧ ({ profileAt 2 with planned := 4 } : Profile).planned = 2 + 1 + 1
      ∧ (profileAt 4).cuttable = false ∧ ({ profileAt 4 with cuttable := true } : Profile).cuttable = true := by decide

theorem witness_HoldTimersAndPins :
    (let s := base.updChannel .p fun c => { c with state := .holding, holdTimer := some 0 }
     atRest s ∧ s.regs.engine = .running ∧ (s.channel .p).state = .holding ∧ (s.channel .p).holdTimer = some 0)
      ∧ atRest base ∧ (base.channel .p).holdTimer ≠ some 0
      ∧ base.boot.state ≠ .awaitStrap ∧ State.reset.boot.state = .awaitStrap := by
  (with_reducible and_intros) <;> first | exact atRest_of _ (by decide) | rfl | decide

/-- A raw level seen on a sensor pin. -/
def pinSeen (n : Sensor) (s : State) : State := s.updSensor n fun c => { c with raw := true, count := some 10000 }

/-- A first level gone from a sensor pin. -/
def pinGone (n : Sensor) (s : State) : State := s.updSensor n fun c => { c with raw := false, accepted := true, posted := true, count := some 10000 }

def feedJob : ScanJob := { scanJobIn .feed with request := { (scanJobIn .feed).request with leadIn := 4, trail := 3 } }

/-- The same record in the phase given, moving. -/
def feeding (p : ScanPhase) : State :=
  let s := scanMoving p 1 0
  { s with scan := { s.scan with work := some (.page { feedJob with phase := p }), buffers := [0] } }

theorem witness_SensorAccepts :
    (calm base ∧ base.regs.engine = .running ∧ (base.sensor .key).raw = (base.sensor .key).accepted)
      ∧ (calm (pinSeen .docRead base) ∧ differsLong .docRead (pinSeen .docRead base) ∧ ¬ differsLong .key base ∧ ((pinSeen .docRead base).sensor .docRead).raw ≠ ((pinSeen .docRead base).sensor .docRead).accepted)
      ∧ (calm (pinSeen .coverOpen base) ∧ differsLong .coverOpen (pinSeen .coverOpen base) ∧ ((pinSeen .coverOpen base).sensor .coverOpen).raw = true
          ∧ ((pinSeen .coverOpen base).sensor .coverOpen).accepted = false)
      ∧ (∀ s ∈ [pinSeen .docRead (searching 0 .search 2 1), pinSeen .docRead (searching 3 .search 2 0),
            pinSeen .docRead (searching 0 .search 2 0)],
          s.power.slot = .none ∧ s.power.state = .active ∧ s.store.unposted = none ∧ s.regs.engine = .running ∧ s.scan.work = none
            ∧ s.print.work = none ∧ s.job .p = none ∧ (s.chain (motionChain .d)).taken = some (record .move [] .working)
            ∧ (s.job .d).map (·.phase) = some .search ∧ (s.channel .d).owner = .chain ∧ (s.channel .d).state = .stepping
            ∧ (s.channel .d).profile = some (profileAt 2) ∧ 1 ≤ (profileAt 2).issued ∧ (s.sensor .docRead).raw = true
            ∧ (s.sensor .docRead).accepted ≠ true ∧ differsLong .docRead s ∧ (s.chain (motionChain .d)).cutPending = false)
      ∧ (max 0 (1 + 1) > 0 ∧ max 3 0 > 0 ∧ max 0 0 = 0)
      ∧ (let s := pinSeen .coverOpen (running .p .off 2 1)
         plain s ∧ s.regs.engine = .running ∧ s.scan.work = none ∧ s.print.work = none ∧ s.job .d = none
          ∧ differsLong .coverOpen s ∧ s.job .p = some { request := .move 5 true 0 .off, phase := .running } ∧ (s.sensor .coverOpen).raw = true
          ∧ (s.sensor .coverOpen).accepted = false)
      ∧ (∀ s ∈ [pinSeen .coverOpen (feeding .capture), pinSeen .docRead (feeding .feed), pinGone .docRead (feeding .leadIn),
            pinGone .docRead (feeding .capture)],
          s.power.slot = .none ∧ s.power.state = .active ∧ s.store.unposted = none ∧ s.regs.engine = .running ∧ s.print.work = none
            ∧ s.motion.jobD = none ∧ s.motion.jobP = none ∧ s.motion.d.owner = .scan ∧ s.scan.buffers ≠ []
            ∧ s.motion.d.profile = some (profileAt 1) ∧ margin 4 s.motion.d.ramp ≤ s.store.room)
      ∧ (pinSeen .coverOpen (feeding .capture)).scan.work = some (.page { feedJob with phase := .capture })
      ∧ 0 < feedJob.request.leadIn ∧ 0 < feedJob.request.trail
      ∧ ((pinSeen .docRead (feeding .feed)).sensor .docRead).raw = true
      ∧ ((pinSeen .docRead (feeding .feed)).sensor .docRead).accepted = false
      ∧ differsLong .docRead (pinSeen .docRead (feeding .feed)) ∧ differsLong .docRead (pinGone .docRead (feeding .leadIn))
      ∧ differsLong .docRead (pinGone .docRead (feeding .capture)) ∧ differsLong .coverOpen (pinSeen .coverOpen (feeding .capture))
      ∧ ((pinGone .docRead (feeding .leadIn)).sensor .docRead).raw = false
      ∧ ((pinGone .docRead (feeding .leadIn)).sensor .docRead).accepted = true
      ∧ (let s := pinSeen .coverOpen (printAt .printing true)
         plain s ∧ differsLong .coverOpen s ∧ s.regs.engine = .running ∧ s.scan.work = none ∧ s.motion.jobD = none ∧ s.motion.jobP = none
          ∧ (s.print.work.map (·.phase)) = some .printing ∧ (printJob .printing).request.source = .lines 16384 216 1
          ∧ (s.chain .print).taken = some (record .printPage linesBody .working) ∧ (s.sensor .coverOpen).raw = true
          ∧ (s.sensor .coverOpen).accepted = false) := by
  (with_reducible and_intros) <;> first | rfl | decide | (and_intros <;> rfl)

/-- The scan unit in WARM-UP with the work given, its timer at 0. -/
def warming (w : ScanWork) : State :=
  let s := scanning w (taken .scan (record .scanPage scanBody .working) base)
  { s with scan := { s.scan with lamp := .warming, warmTimer := some 0, lineTimer := none } }.updChannel .d fun c =>
    { c with owner := .scan, lastStep := some 0, floor := some 9000 }

def warmJob : ScanJob := { feedJob with phase := .warmUp }

/-- The print unit with its supply settling, a record waiting for it, and a lamp in LINGER. -/
def settling : State :=
  let s := printAt .supplySettle false
  { s with print := { s.print with supply := .settling, settleTimer := some 0 }
           scan := { s.scan with lamp := .linger, lingerTimer := some 0 } }

theorem witness_LampAndSupplyTimers :
    (let s := warming (.gray { grayJob with phase := .warmUp })
     s.regs.engine = .running ∧ plain s ∧ s.print.work = none ∧ s.motion.jobD = none ∧ s.motion.jobP = none
      ∧ s.scan.lamp = .warming ∧ s.scan.warmTimer = some 0 ∧ s.scan.work = some (.gray { grayJob with phase := .warmUp }))
      ∧ (let s := warming (.page warmJob)
         plain s ∧ s.scan.work = some (.page warmJob) ∧ s.motion.d.owner = .scan
          ∧ (s.chain .scan).taken = some (record .scanPage scanBody .working) ∧ 0 < warmJob.request.leadIn
          ∧ s.level .docRead = false ∧ s.level .docPresent = false ∧ (level .docRead s).level .docRead = true
          ∧ (level .docPresent s).level .docPresent = true ∧ warmJob.created = false
          ∧ 0 < s.scan.tables.geometry.lingerS ∧ s.motion.d.lastStep = some 0
          ∧ s.now < 0 + max (s.motion.d.table.ramp.getD 0 0) (s.motion.d.floor.getD 0))
      ∧ (atRest settling ∧ settling.regs.engine = .running ∧ settling.print.supply = .settling
          ∧ settling.print.settleTimer = some 0 ∧ settling.scan.lamp = .linger ∧ settling.scan.lingerTimer = some 0)
      ∧ (let s := { base with print := { base.print with supply := .linger, lingerTimer := some 0 } }
         atRest s ∧ s.print.supply = .linger ∧ s.print.lingerTimer = some 0)
      ∧ base.scan.warmTimer ≠ some 0 ∧ base.scan.lingerTimer ≠ some 0 ∧ base.print.settleTimer ≠ some 0
      ∧ base.print.lingerTimer ≠ some 0 := by
  (with_reducible and_intros) <;> first | exact atRest_of _ (by decide) | rfl | decide | (and_intros <;> rfl)

/-- Page 15 with one band filling. -/
def fillingStore (lines : Nat) : PageStore :=
  let st := { pooled.store with head := some 1, count := 15, room := 256 - lines }
  (st.setBand 0 { state := .filling, page := 15, lines := lines, next := none }).setPage 15
    { state := .filling, fill := true, print := true, keep := false, lines := 2, base := 0, first := some 0
      last := some 0, count := 1, spl := 4, cause := .none }

/-- A SCAN PAGE with three lines captured, its advance the four steps of a line. -/
def captured : ScanJob := { scanJob with captured := 3, created := true }

def capturing (j : ScanJob) (st : PageStore) (ramp : Nat) (buffers : List Line) : State :=
  let s := scanning (.page j) { base with store := st }
  let s := { s with scan := { s.scan with buffers := buffers, lineTimer := some 0, captureRef := 10 } }
  (taken .scan (record .scanPage scanBody .working) s).updChannel .d fun c =>
    { c with
      state := .stepping, owner := .scan, position := 14, ramp := ramp, stepDue := some 7, floor := some 1250
      profile := some { planned := 30, issued := 3, forward := true, top := 3 } }

/-- What the next capture assigns. -/
def nextSlot (j : ScanJob) (s : State) : Option Assigned := s.store.assign j.request.page (pageAtCapture j s)

def noBands : PageStore := { fillingStore 14 with head := none, tail := none, count := 0, room := 2 }

def firstJob : ScanJob := { captured with captured := 0, created := false }

def lastJob : ScanJob := { captured with captured := 5999, request := { captured.request with eject := 3 } }

theorem witness_LineBoundaries :
    (∀ s ∈ [capturing captured (fillingStore 3) 2 [], capturing firstJob pooled.store 2 [], capturing captured (fillingStore 15) 2 [],
          capturing captured noBands 2 [], capturing lastJob (fillingStore 3) 2 [], capturing captured (fillingStore 3) 2 [0, 0]],
        s.print.work = none ∧ s.motion.jobD = none ∧ s.motion.jobP = none ∧ s.scan.lineTimer = some 0
          ∧ (4 : Int) ≤ (s.motion.d.position - s.scan.captureRef).toInt ∧ s.motion.d.state = .stepping
          ∧ (s.motion.d.profile.map (·.issued)) = some 3 ∧ 0 < s.motion.d.ramp ∧ s.regs.engine = .running)
      ∧ atRest (capturing captured (fillingStore 3) 2 []) ∧ atRest (capturing firstJob pooled.store 2 [])
      ∧ atRest (capturing captured (fillingStore 15) 2 []) ∧ atRest (capturing captured noBands 2 [])
      ∧ atRest (capturing lastJob (fillingStore 3) 2 []) ∧ atRest (capturing captured (fillingStore 3) 2 [0, 0])
      ∧ (nextSlot captured (capturing captured (fillingStore 3) 2 [])).any (fun a =>
          !a.full && decide (margin 4 2 ≤ a.store.roomNow)) = true
      ∧ (nextSlot captured (capturing captured (fillingStore 15) 2 [])).any (fun a => a.full && decide (margin 4 2 ≤ a.store.roomNow)) = true
      ∧ (nextSlot captured (capturing captured noBands 2 [])).any (fun a => !a.full && decide (a.store.roomNow < margin 4 2)) = true
      ∧ (nextSlot firstJob (capturing firstJob pooled.store 2 [])).any (fun a => !a.full && a.slot == 0) = true
      ∧ captured.captured + 1 < captured.request.lineLimit ∧ lastJob.request.lineLimit ≤ lastJob.captured + 1
      ∧ 0 < lastJob.request.eject ∧ captured.phase = .capture ∧ captured.captureStopped = false
      ∧ (pooled.store.page 15).state = .empty ∧ pooled.store.head = some 0 ∧ 0 < pooled.store.count
      ∧ ((fillingStore 3).page 15).last = some 0 ∧ ((fillingStore 3).band 0).state = .filling
      ∧ (∀ x ∈ (capturing captured (fillingStore 15) 2 []).dram.chain, x.tag ≠ .progress .scan)
      ∧ (let j := { captured with phase := .paused, top := 3 }
         atRest (capturing j { noBands with room := 0 } 0 []) ∧ j.pausedFromTrail = false
          ∧ (nextSlot j (capturing j noBands 0 [])).any (fun a => decide (a.store.roomNow < margin 4 j.top)) = true)
      ∧ (let s := scanning (.gray grayJob) base
         atRest s ∧ s.scan.lineTimer = some 0 ∧ s.scan.work = some (.gray grayJob)
          ∧ grayJob.phase = .lines ∧ s.scan.grayRow = none ∧ grayJob.stored < grayJob.count)
      ∧ (let s := { base with scan := { base.scan with lineTimer := some 0 } }
         atRest s ∧ s.scan.work = none ∧ s.scan.lineTimer = some 0)
      ∧ (let s := (capturing captured (fillingStore 3) 2 []).updChannel .d fun c => { c with position := 13 }
         atRest s ∧ (4 : Int) > (s.motion.d.position - s.scan.captureRef).toInt)
      ∧ base.scan.lineTimer = none := by
  (with_reducible and_intros) <;> first | exact atRest_of _ (by decide) | rfl | decide | (and_intros <;> rfl)

/-- A record in CLOSING with one buffer still to write. -/
def closingJob : ScanJob := { captured with phase := .closing, captureStopped := true, cause := .cut, outcome := some (.cut, .cutByHost) }

def pausedJob (created : Bool) : ScanJob := { captured with phase := .paused, created := created }

/-- A record in PAUSED without room, its band wait at an end. -/
def bandWaiting (buffers : List Line) : State :=
  let s := capturing (pausedJob true) { fillingStore 3 with room := 0 } 0 buffers
  { s with scan := { s.scan with bandWait := some 0 } }.updChannel .d fun c => { c with state := .holding, profile := none, stepDue := none }

def grayWritten (n : Nat) : State :=
  written .scan .grayRow 4096 [9, 8] (scanning (.gray { grayJob with stored := n }) (taken .scan (record .grayCapture [] .working) base))

theorem witness_ScanWritesAndWaits :
    (let s := written .scan .lineBuffer 65600 [1, 2] (capturing captured (fillingStore 3) 2 [0])
     atRest s ∧ s.print.work = none ∧ s.motion.jobD = none ∧ s.motion.jobP = none ∧ s.scan.work = some (.page captured)
      ∧ captured.phase = .capture ∧ captured.request.page < s.store.pages.length ∧ lastWrite .scan .lineBuffer 65600 [1, 2] [] s)
      ∧ (let s := written .scan .lineBuffer 65600 [1, 2] (capturing closingJob (fillingStore 3) 0 [0])
         atRest s ∧ s.scan.work = some (.page closingJob) ∧ s.scan.buffers.length = 1 ∧ closingJob.created = true
          ∧ closingJob.outcome = some (.cut, .cutByHost) ∧ (s.store.page 15).print = true
          ∧ (s.chain .scan).taken = some (record .scanPage scanBody .working))
      ∧ (atRest (grayWritten 0) ∧ (grayWritten 0).scan.work = some (.gray grayJob) ∧ grayJob.phase = .lines ∧ grayJob.outcome = none
          ∧ lastWrite .scan .grayRow 4096 [9, 8] [] (grayWritten 0) ∧ grayJob.stored + 1 < grayJob.count)
      ∧ (atRest (grayWritten 1) ∧ (grayWritten 1).scan.work = some (.gray { grayJob with stored := 1 })
          ∧ grayJob.count ≤ 1 + 1 ∧ ((grayWritten 1).chain .scan).taken = some (record .grayCapture [] .working))
      ∧ (atRest (bandWaiting [0]) ∧ (bandWaiting [0]).scan.work = some (.page (pausedJob true)) ∧ (pausedJob true).phase = .paused
          ∧ (bandWaiting [0]).scan.bandWait = some 0 ∧ (bandWaiting [0]).scan.buffers ≠ [])
      ∧ (atRest (bandWaiting []) ∧ (bandWaiting []).scan.buffers = [] ∧ (pausedJob true).created = true
          ∧ ((bandWaiting []).chain .scan).taken = some (record .scanPage scanBody .working))
      ∧ atRest base ∧ base.scan.bandWait ≠ some 0 := by
  (with_reducible and_intros) <;> first | exact atRest_of _ (by decide) | rfl | decide | (and_intros <;> rfl)

/-- A PRINT PAGE from 50 LINES, one a MiB/64 up, with the top margin given. -/
def printOf (p : PrintPhase) (margin : Nat) : PrintJob :=
  { printJob p with request := { (printJob p).request with source := .lines 16384 216 50, topMargin := margin }, due := false
                    lastDone := some 0 }

/-- The record on channel P, a line due, its supply ON and its next line being read. -/
def linePending (j : PrintJob) : State :=
  let s := taken .print (record .printPage linesBody .working) (printing j base)
  { s with print := { s.print with dueTimer := some 0, convTimer := some 0, supply := .on, fetch := .reading true false } }.updChannel .p
    fun c => { c with state := .holding, owner := .print }

/-- The same with the line formed. -/
def lineFormed (l : Line) (s : State) : State := { s with print := { s.print with lineStore := some l, fetch := .idle, accProduct := 256, accLine := 1 } }

def someLine : Line := 0xFF00FF#1728

theorem witness_SamplesFetchesLines :
    (let s := linePending (printOf .topMargin 4)
     atRest s ∧ s.scan.work = none ∧ s.motion.jobD = none ∧ s.motion.jobP = none ∧ s.regs.engine = .running
      ∧ s.print.convTimer = some 0 ∧ s.print.work = some (printOf .topMargin 4))
      ∧ (let s := linePending (printOf .supplySettle 4)
         atRest s ∧ s.print.work = some (printOf .supplySettle 4) ∧ s.print.supply = .on ∧ s.level .paperPresent = false
          ∧ (printOf .supplySettle 4).request.source = .lines 16384 216 50 ∧ 0 < (printOf .supplySettle 4).request.topMargin
          ∧ (s.chain .print).taken = some (record .printPage linesBody .working)
          ∧ atRest (stepped 0 .p (level .paperPresent s)) ∧ (stepped 0 .p (level .paperPresent s)).motion.p.lastStep = some 0
          ∧ s.now < 0 + s.motion.p.table.ramp.getD 0 0)
      ∧ (let s := (level .paperPresent (linePending (printOf .supplySettle 0))).updChannel .p fun c => { c with state := .off }
         atRest s ∧ s.level .paperPresent = true ∧ (printOf .supplySettle 0).request.topMargin = 0 ∧ s.motion.p.state = .off
          ∧ s.print.lineStore = none ∧ s.print.fetch = .reading true false ∧ s.motion.p.stepDue = none
          ∧ (printOf .supplySettle 0).lineActive = false)
      ∧ (atRest (linePending (printOf .heatWait 4)) ∧ base.print.heat.tResume < 190)
      ∧ (let s := read .print .source 64 [1, 2, 3] (linePending (printOf .topMargin 4))
         atRest s ∧ s.print.fetch = .reading true false ∧ lastRead .print .source [1, 2, 3] [] s
          ∧ (printOf .topMargin 4).phase ≠ .printing ∧ (printOf .topMargin 4).phase ≠ .lineWait)
      ∧ (let s0 := read .print .stamp 64 [1, 2, 3] (linePending (printOf .topMargin 4))
         let s := { s0 with print := { s0.print with fetch := .reading false true, sourceStore := some (0, 5) } }
         atRest s ∧ lastRead .print .stamp [1, 2, 3] [] s ∧ s.print.sourceStore = some (0, 5))
      ∧ (let s := linePending (printOf .printing 0)
         atRest s ∧ s.print.work = some (printOf .printing 0) ∧ (printOf .printing 0).due = false ∧ (printOf .printing 0).lineActive = false
          ∧ s.print.dueTimer = some 0 ∧ s.motion.p.stepDue = none ∧ s.motion.p.owner = .print ∧ s.print.lineStore = none)
      ∧ (let j := { printOf .printing 0 with request := { (printOf .printing 0).request with source := .page 15 } }
         let s0 := linePending j
         let s := { s0 with
           print := { s0.print with fetch := .waiting }
           store := pooled.store.setPage 15 { Page.blank .none with state := .filling, fill := true, print := true } }
         atRest s ∧ s.print.fetch = .waiting ∧ s.print.lineStore = none)
      ∧ (let s := lineFormed someLine (linePending (printOf .printing 0))
         atRest s ∧ s.print.lineStore = some someLine ∧ s.print.fetch = .idle ∧ (s.chain .print).cutPending = false
          ∧ (printOf .printing 0).request.stamp = none ∧ s.level .paperPresent = false
          ∧ atRest (level .paperPresent s) ∧ (level .paperPresent s).level .paperPresent = true
          ∧ s.print.tempCode < s.print.heat.tStop ∧ s.motion.p.floor = none ∧ s.motion.p.lastStep = none
          ∧ s.print.accProduct / 256 < 50 ∧ s.print.sourceStore = none
          ∧ (let hot := { s with print := { s.print with tempCode := 200 } }
             atRest hot ∧ hot.print.heat.tStop ≤ hot.print.tempCode))
      ∧ (makePlan base.print.heat 0 someLine 0 0).kinds = [.a, .b, .c]
      ∧ (makePlan base.print.heat 0 0 0 0).kinds = [] ∧ (makePlan base.print.heat 0 0 0 0).overLines = 0
      ∧ ((printOf .printing 0).outputLines + 1) % 16 ≠ 0
      ∧ base.print.heat.coolMs * 1000 < 50001 - 0 ∧ ¬ base.print.heat.coolMs * 1000 < 50000 - 0
      ∧ base.print.dueTimer ≠ some 0 ∧ base.print.fetch = .idle ∧ base.print.convTimer = none ∧ base.print.lateSample = none := by
  (with_reducible and_intros) <;> first
    | exact atRest_of _ (by decide) | decide +kernel | rfl | exact ⟨_, _, _, rfl, by decide, by decide⟩ | (and_intros <;> rfl)

/-- A line's sequence with kind A shifting, B and C to come. -/
def someGroup : Group := { first := 0, blocks := 2, dotsA := 4, dotsB := 3, dotsC := 1 }

def planOf : Plan :=
  { base := 1000, durA := 600, durB := 300, durC := 100, lineA := 0, lineB := 0, lineC := 0, groups := [someGroup]
    overLines := 0, kinds := [.a, .b, .c] }

def shiftingA : Sequence :=
  { plan := planOf, todo := [.b, .c], shifting := some .a, loadTimer := some 0, loaded := none, firing := none, left := []
    fireTimer := none, pulse := false }

def firingC (left : List Group) (loaded : Option HeatKind) : Sequence :=
  { shiftingA with todo := [], shifting := none, loadTimer := none, firing := some .c, left := left, fireTimer := some 0, loaded := loaded }

def energizing (j : PrintJob) (q : Sequence) : State :=
  let s := printing j pooled
  { s with print := { s.print with sequence := some q, lineStore := some 0, printLine := some 0 } }

def pageJob (n : Nat) : PrintJob :=
  { printJob .printing with request := { (printJob .printing).request with source := .page 15, scale := 256 }, outputLines := n }

/-- Page 15 with a full first band and a second one that fills. -/
def twoBands (keep : Bool) : PageStore :=
  let st := { pooled.store with head := some 2, count := 14, room := 224 }
  let st := (st.setBand 0 { state := .full, page := 15, lines := 16, next := some 1 }).setBand 1
    { state := .filling, page := 15, lines := 3, next := none }
  st.setPage 15 { (Page.blank .none) with
    state := .filling, fill := true, print := true, keep := keep, lines := 18, first := some 0, last := some 1, count := 2 }

theorem witness_EnergizeSequence :
    ((energizing (printJob .printing) shiftingA).print.sequence = some shiftingA ∧ shiftingA.shifting = some .a
        ∧ shiftingA.loadTimer = some 0 ∧ shiftingA.firing = none
        ∧ (energizing (printJob .printing) { shiftingA with firing := some .b }).print.sequence = some { shiftingA with firing := some .b })
      ∧ (∀ q ∈ [firingC [someGroup, someGroup] none, firingC [someGroup] none, firingC [someGroup] (some .b)],
          (let s := energizing (printJob .printing) q
           s.store.unposted = none ∧ s.power.state = .active ∧ s.power.slot = .none ∧ s.motion.jobD = none ∧ s.motion.jobP = none
            ∧ s.scan.work = none ∧ s.print.sequence = some q ∧ s.print.work = some (printJob .printing) ∧ s.print.fetch = .idle
            ∧ s.print.lineStore ≠ none ∧ s.motion.p.stepDue = none ∧ q.firing = some .c ∧ q.fireTimer = some 0))
      ∧ (printJob .printing).phase = .printing ∧ (printJob .printing).due = false
      ∧ (firingC [someGroup] none).loaded = none ∧ (firingC [] none).shifting = none ∧ (firingC [] none).todo = []
      ∧ (firingC [] none).plan.overLines = 0 ∧ (printJob .printing).request.source = .lines 16384 216 1
      ∧ ((printJob .printing).outputLines + 1) % 16 ≠ 0 ∧ ((energizing (printJob .printing) shiftingA).chain .print).cutPending = false
      ∧ (let st := twoBands false
         (pageJob 16).request.source = .page 15 ∧ ((pageJob 16).outputLines + 1) % 16 ≠ 0 ∧ (st.page 15).keep = false
          ∧ 15 < st.pages.length ∧ (st.page 15).first = some 0 ∧ 1 < (st.page 15).count ∧ (st.band 0).next = some 1
          ∧ (st.band 0).state = .full ∧ 1 ≤ (st.band 0).lines ∧ (st.page 15).base + (st.band 0).lines ≤ (16 + 1) * 256 / 256
          ∧ (st.page 15).base + (st.band 0).lines ≤ (st.page 15).lines ∧ st.tail = some 15 ∧ 0 < st.bands.length
          ∧ (st.band 1).state = .filling ∧ (13 + 1) * 256 / 256 ≤ (st.page 15).base + (st.band 0).lines - 1
          ∧ ((twoBands true).page 15).keep = true)
      ∧ (let s := printAt .heatWait false
         let s := { s with print := { s.print with overheat := some 0 } }
         plain s ∧ s.scan.work = none ∧ s.motion.jobD = none ∧ (s.print.work.map (·.phase)) = some .heatWait
          ∧ s.print.overheat = some 0 ∧ (s.chain .print).taken = some (record .printPage linesBody .working))
      ∧ base.print.sequence = none ∧ base.print.overheat ≠ some 0 := by
  (with_reducible and_intros) <;> first | decide +kernel | rfl | (and_intros <;> rfl)

theorem witness_HeatLaws :
    HeatTable.cold.minPulse ≤ HeatTable.cold.maxPulse ∧ HeatTable.cold.kHot ≤ HeatTable.cold.kWarm
      ∧ HeatTable.cold.kWarm ≤ 16 ∧ 255 / 16 = 15 ∧ 239 / 16 = 14 ∧ 0 % 16 = 0 := by decide

theorem witness_StrobeGroupsLaw :
    (let h := { HeatTable.cold with dotLimit := 215 }
     h.dotLimit < blockDots (BitVec.allOnes 1728) 7 ∧ blockDots 0 0 ≤ h.dotLimit
      ∧ (makePlan h 90 (BitVec.allOnes 1728) 0 0).groups.length = 8) := by
  and_intros <;> decide +kernel

/-- A SEND BLOCK of count bytes, of which some are fetched, offered and sent, on an UP link. -/
def blockAt (count offered sent : Nat) : SendBlockJob :=
  { blockJob with count := count, fetched := offered, offered := offered, sent := sent }

def linkSending (j : SendBlockJob) : State :=
  let s := linkUp (sending (.block j) (taken .send (record .sendBlock [] .working) base))
  { s with modem := { s.modem with store := [0xAB, 0xCD], fetching := 3, mode := 9, runOpen := true } }

def blockByte : SendByte := { byte := 1, fill := false, last := true, spent := false }

def fillByte : SendByte := { byte := 1, fill := true, last := false, spent := false }

/-- An UP link in a frame that sent AB, the modem's state as given. -/
def framed (f : Modem → Modem) (s : State) : State :=
  let s := linkUp s
  { s with modem := f { s.modem with frame := some (1, 2), ackLimit := 1, fillLimit := 2 } }

def modeWork (n : Nat) : State :=
  framed (fun m => { m with sendWork := some (.mode 3 n true) }) (taken .send (record .modeChange [] .working) base)

def stoppedWrite : Xfer := { tag := .stopped, addr := 160, data := .write [0], note := none }

/-- An engine reset whose write of STOPPED waits, the link timer due. -/
def resetLink (before : List Xfer) : State :=
  { base with
    regs := { base.regs with engine := .resetting }, dram := { base.dram with chain := before ++ [stoppedWrite] }
    modem := { (linkUp base).modem with linkTimer := some 0 } }

theorem witness_LinkFrames :
    (atRest base ∧ base.regs.engine = .running ∧ base.modem.linkUp = false ∧ base.modem.send = .idle
        ∧ base.modem.sendWork = none ∧ base.modem.underrun = false)
      ∧ (let s := linkSending (blockAt 4 3 2)
         atRest s ∧ s.modem.linkUp = true ∧ s.modem.send = .idle ∧ s.modem.sendWork = some (.block (blockAt 4 3 2))
          ∧ 0 < (blockAt 4 3 2).offered ∧ s.modem.store = [0xAB, 0xCD] ∧ 0 < s.modem.fetching)
      ∧ (let s := framed (fun m => { m with underrun := true, fillOk := true }) base
         atRest s ∧ s.modem.linkUp = true ∧ s.modem.underrun = true ∧ s.modem.fillOk = true ∧ (s.chain .send).taken = none)
      ∧ (∀ n ∈ [2, 3], (let s := framed (fun m => { m with send := .aborting n }) base
          s.modem.send = .aborting n ∧ (1#8).getLsbD 0 = true ∧ s.modem.runOpen = false ∧ s.modem.resetAbort = false
            ∧ s.modem.frame = some (1, 2) ∧ s.modem.acked = false ∧ s.modem.sendWork = none))
      ∧ (∀ p ∈ [(4, 3, 2), (3, 3, 2)], (let s0 := linkSending (blockAt p.1 p.2.1 p.2.2)
          let s := framed (fun m => { m with send := .offered blockByte, waited := 1 }) s0
          s.modem.send = .offered blockByte ∧ s.modem.sendWork = some (.block (blockAt p.1 p.2.1 p.2.2)) ∧ s.modem.acked = false
            ∧ (s.chain .send).taken = some (record .sendBlock [] .working) ∧ s.modem.ackLimit < s.modem.waited + 1
            ∧ blockByte.spent = false))
      ∧ atRest (framed (fun m => { m with send := .offered blockByte }) (linkSending (blockAt 3 3 2)))
      ∧ (∀ run ∈ [true, false], (let s := framed (fun m => { m with send := .retracting blockByte, runOpen := run }) base
          s.modem.send = .retracting blockByte ∧ s.modem.runOpen = run ∧ s.modem.waited + 1 ≤ s.modem.ackLimit
            ∧ (s.chain .send).taken = none ∧ s.modem.sendWork = none))
      ∧ (∀ spent ∈ [true, false], (let b := { blockByte with spent := spent }
          let s := framed (fun m => { m with send := .retracting b, waited := 1, runOpen := !spent }) (linkSending (blockAt 3 3 2))
          s.modem.send = .retracting b ∧ b.spent = spent ∧ s.modem.runOpen = !spent ∧ s.modem.ackLimit < s.modem.waited + 1
            ∧ (s.chain .send).taken = some (record .sendBlock [] .working) ∧ s.modem.sendWork = some (.block (blockAt 3 3 2))))
      ∧ (∀ n ∈ [0, 1], (let s := framed (fun m => { m with send := .offered fillByte, fillCount := n, underrun := true }) base
          s.modem.send = .offered fillByte ∧ fillByte.fill = true ∧ s.modem.fillCount = n ∧ s.modem.fillLimit = 2))
      ∧ (∀ n ∈ [0, 1], (modeWork n).modem.sendWork = some (.mode 3 n true)
          ∧ ((modeWork n).chain .send).taken = some (record .modeChange [] .working) ∧ (modeWork n).modem.send = .idle)
      ∧ atRest (modeWork 1)
      ∧ (let s := framed (fun m => { m with receiveWork := some (receiveJob 1) }) (taken .receive (record .receiveBuffer [] .working) base)
         atRest s ∧ s.modem.receiveWork = some (receiveJob 1) ∧ s.modem.latch = none)
      ∧ (let s := framed id base
         atRest s ∧ s.modem.receiveWork = none ∧ (s.chain .receive).taken = none ∧ s.modem.holdActive = false
          ∧ (framed (fun m => { m with acked := true }) base).modem.acked = true ∧ s.modem.candidate ≠ some 5 ∧ s.modem.code = 0
          ∧ (framed (fun m => { m with candidate := some 5 }) base).modem.candidate = some 5)
      ∧ (let s := framed (fun m => { m with candidate := some 15 }) (linkSending (blockAt 4 3 2))
         atRest s ∧ s.modem.code ≠ 15 ∧ s.modem.candidate = some 15 ∧ s.modem.runOpen = true)
      ∧ (let s := { linkUp base with modem := { (linkUp base).modem with linkTimer := some 0 } }
         atRest s ∧ s.modem.linkUp = true ∧ s.modem.linkTimer = some 0 ∧ s.modem.sendWork = none
          ∧ s.modem.receiveWork = none ∧ s.modem.resetAbort = false)
      ∧ (∀ before ∈ [[], [areaPost base 169 [0] none]],
          (resetLink before).dram.chain = before ++ [stoppedWrite] ∧ (∀ y ∈ before, y.tag ≠ .stopped))
      ∧ (let s := resetLink []
         atRest s ∧ s.regs.engine = .resetting ∧ s.dram.grant = none ∧ stoppedWrite.tag = .stopped ∧ s.modem.linkUp = true
          ∧ s.modem.linkTimer = some 0 ∧ s.modem.sendWork = none ∧ s.modem.receiveWork = none)
      ∧ base.modem.linkTimer ≠ some 0 := by
  (with_reducible and_intros) <;> first | exact atRest_of _ (by decide) | rfl | decide | (and_intros <;> rfl)

/-- A receive write at its end. -/
def receiving (count : Nat) (il : Bool) : State :=
  let s := taken .receive (record .receiveBuffer [] .working) base
  written .modem .receive 4100 [7]
    { s with modem := { s.modem with latch := some (7, il), receiveWork := some (receiveJob count), acked := true } }

theorem witness_LinkTransfersAndTimers :
    (let s := read .modem .sendFetch 4096 [1, 2] (linkSending (blockAt 4 4 3))
     atRest s ∧ s.modem.sendWork = some (.block (blockAt 4 4 3)) ∧ (blockAt 4 4 3).fetched = (blockAt 4 4 3).count
      ∧ lastRead .modem .sendFetch [1, 2] [] s)
      ∧ (let s := receiving 4 false
         atRest s ∧ s.modem.receiveWork = some (receiveJob 4) ∧ (receiveJob 4).outcome = none
          ∧ s.modem.latch = some (7, false) ∧ lastWrite .modem .receive 4100 [7] [] s
          ∧ (s.chain .receive).taken = some (record .receiveBuffer [] .working) ∧ (receiveJob 4).count < (receiveJob 4).length)
      ∧ ((receiveJob 5).length ≤ (receiveJob 5).count ∧ atRest (receiving 5 false) ∧ lastWrite .modem .receive 4100 [7] [] (receiving 5 false)
          ∧ (receiving 1 true).modem.latch = some (7, true))
      ∧ (let s := { base with modem := { base.modem with holdTimer := some 0, holdActive := true } }
         atRest s ∧ s.regs.engine = .running ∧ s.modem.holdTimer = some 0)
      ∧ (atRest waitWork ∧ waitWork.modem.waitTimer = some 0 ∧ waitWork.modem.sendWork = some (.wait 15 1 0 9)
          ∧ (waitWork.chain .send).taken = some (record .conditionWait [] .working))
      ∧ base.modem.holdTimer ≠ some 0 ∧ base.modem.waitTimer ≠ some 0 := by
  (with_reducible and_intros) <;> first
    | exact atRest_of _ (by decide) | rfl | decide | exact ⟨_, _, _, rfl, by decide, by decide⟩ | (and_intros <;> rfl)

/-- HOOK's pin has changed while the part sleeps. -/
def hookSeen : State := pinSeen .hook asleep

theorem witness_PowerTimers :
    (∀ n ∈ [1000000, 999999], (let s := { base with power := { base.power with idleSeconds := 1, idleTimer := n } }
      s.power.state = .active ∧ quiet s = true ∧ 0 < s.power.idleSeconds ∧ s.power.idleTimer = n))
      ∧ (quiet atWork = false ∧ asleep.power.state ≠ .active)
      ∧ (asleep.power.state = .sleep ∧ asleep.power.wakeTimer = some 0 ∧ asleep.regs.wakeMask.getLsbD 4 = true
          ∧ (0x02#5).getLsbD 4 = false)
      ∧ (hookSeen.power.state = .sleep ∧ hookSeen.regs.wakeMask.getLsbD 1 = true
          ∧ hookSeen.motion.hook.raw ≠ hookSeen.motion.hook.accepted ∧ differsLong .hook hookSeen)
      ∧ (waking.power.state = .waking ∧ waking.power.oscTimer = some 0 ∧ waking.dram.held = [] ∧ waking.regs.engine = .running
          ∧ (∀ n ∈ allSensors, (waking.sensor n).accepted = (waking.sensor n).posted)
          ∧ waking.modem.linkUp = waking.modem.postedUp ∧ waking.modem.code = waking.modem.postedCode)
      ∧ base.power.oscTimer ≠ some 0 ∧ base.power.wakeTimer ≠ some 0 := by and_intros <;> first | rfl | decide

end Sys2Proof.Tests
end

/-! SUPPORT. The tick of the time base (section 2.2 of 00_scope.md, R77, R142): what it leaves unchanged, how far the tick count goes. -/

namespace Sys2Proof.Machine

section

variable (s : State)

/-! ## What a step on an empty queue is -/

theorem step_of_pending_nil (h : s.pending = []) : step s = .next (tick s) := by
  simp only [step, h]

theorem lineDueNow_iff : lineDueNow s = true ↔ s.print.dueTimer = some 0 ∧ s.print.work ≠ none := by
  simp [lineDueNow, atZero, Option.isSome_iff_ne_none]

theorem slowBase_iff : slowBase s = true ↔ s.power.state = .sleep ∨ s.power.oscTimer.isSome := by
  simp [slowBase]

theorem tick_of_lineDueNow (h : lineDueNow s = true) : tick s = { s with pending := s.pending ++ [.lineDue] } :=
  if_pos h

/-- The time base that runs (R142): the 32.768 kHz clock while the main oscillator is stopped or not settled. -/
def timeBase : State := if slowBase s then slowTick s else fastTick s

theorem tick_of_not_lineDueNow (h : lineDueNow s ≠ true) :
    tick s = { timeBase s with pending := (timeBase s).pending ++ dueSteps (timeBase s) } :=
  if_neg h

/-! ## What the time base leaves unchanged -/

/-- What no tick touches: every byte of DRAM, the host bus, the registers, the boot result, the chains and the page store. -/
def keptByTick (s t : State) : Prop :=
  keptMemory s t ∧ t.bus = s.bus ∧ t.regs = s.regs ∧ t.boot.result = s.boot.result ∧ t.chains = s.chains
    ∧ t.store = s.store

theorem fastTick_kept : keptByTick s (fastTick s) := ⟨⟨rfl, rfl, rfl⟩, rfl, rfl, rfl, rfl, rfl⟩

theorem slowTick_kept : keptByTick s (slowTick s) := ⟨⟨rfl, rfl, rfl⟩, rfl, rfl, rfl, rfl, rfl⟩

@[simp] theorem fastTick_now : (fastTick s).now = s.now + 1 := rfl

@[simp] theorem slowTick_now : (slowTick s).now = s.now := rfl

theorem timeBase_kept : keptByTick s (timeBase s) := by
  unfold timeBase
  split
  · exact slowTick_kept s
  · exact fastTick_kept s

/-- The tick count is the main oscillator's (Conventions, Time): it stands while the slow clock times the part. -/
theorem timeBase_now :
    (timeBase s).now = if s.power.state = .sleep ∨ s.power.oscTimer.isSome then s.now else s.now + 1 := by
  simp only [timeBase, ← slowBase_iff]
  split
  · exact slowTick_now s
  · exact fastTick_now s

end

/-! ## The statement -/

/-- Settles O3: a line due now is queued and no time passes; otherwise the time base ticks, and what is due after it changes
the queue alone. -/
theorem tickOnEmptyQueue : Obligations.TickOnEmptyQueue := by
  intro s hempty
  rw [step_of_pending_nil s hempty]
  constructor
  · intro htimer hwork
    have hdue : lineDueNow s = true := (lineDueNow_iff s).2 ⟨htimer, hwork⟩
    rw [tick_of_lineDueNow s hdue, hempty, List.nil_append]
  · intro hnot
    have hdue : lineDueNow s ≠ true := by
      intro hnow
      obtain ⟨htimer, hwork⟩ := (lineDueNow_iff s).1 hnow
      exact hnot.elim (fun hlate => hlate htimer) hwork
    obtain ⟨hmemory, hbus, hregs, hboot, hchains, hstore⟩ := timeBase_kept s
    rw [tick_of_not_lineDueNow s hdue]
    exact ⟨_, rfl, hmemory, hbus, hregs, hboot, hchains, hstore, timeBase_now s⟩

end Sys2Proof.Machine

/-! SUPPORT. Head energy control (R88, R89): the interpolation in closed form, the clamp, and the shares of the base pulse. -/

namespace Sys2Proof.Machine

/-! ## The interpolation (R88) -/

/-- A rounded sixteenth part of a difference lies between 0 and the difference, on either side of 0. -/
theorem sixteenths_between (d f : Int) (h0 : 0 ≤ f) (h15 : f ≤ 15) :
    min 0 d ≤ (d * f + 8) / 16 ∧ (d * f + 8) / 16 ≤ max 0 d := by
  rcases Int.le_total 0 d with hd | hd
  · have hlow : 0 ≤ d * f := Int.mul_nonneg hd h0
    have hhigh : d * f ≤ d * 15 := Int.mul_le_mul_of_nonneg_left h15 hd
    omega
  · have hlow : d * 15 ≤ d * f := Int.mul_le_mul_of_nonpos_left hd h15
    have hhigh : d * f ≤ 0 := Int.mul_nonpos_of_nonpos_of_nonneg hd h0
    omega

theorem interpolate_below (e : List Nat) (t : Nat) (h : t / 16 < 15) :
    interpolate e t = (e.getD (t / 16) 0 : Int)
      + (((e.getD (t / 16 + 1) 0 : Int) - (e.getD (t / 16) 0 : Int)) * (t % 16 : Nat) + 8) / 16 := by
  simp [interpolate, h]

theorem interpolate_top (e : List Nat) (t : Nat) (h : t / 16 = 15) : interpolate e t = (e.getD 15 0 : Int) := by
  simp [interpolate, h]

theorem interpolate_between (e : List Nat) (t : Nat) (h : t / 16 < 15) :
    min (e.getD (t / 16) 0 : Int) (e.getD (t / 16 + 1) 0 : Int) ≤ interpolate e t
      ∧ interpolate e t ≤ max (e.getD (t / 16) 0 : Int) (e.getD (t / 16 + 1) 0 : Int) := by
  have hbetween := sixteenths_between ((e.getD (t / 16 + 1) 0 : Int) - (e.getD (t / 16) 0 : Int)) (t % 16 : Nat)
    (by omega) (by omega)
  rw [interpolate_below e t h]
  omega

theorem interpolate_at_entry (e : List Nat) (t : Nat) (h : t / 16 < 15) (hf : t % 16 = 0) :
    interpolate e t = (e.getD (t / 16) 0 : Int) := by
  simp [interpolate_below e t h, hf]

/-! ## The clamp (R88) -/

theorem basePulse_clamps (h : HeatTable) (t : Nat) (hle : h.minPulse ≤ h.maxPulse) :
    (basePulse h t : Int) = min (max (interpolate h.energy t) h.minPulse) h.maxPulse := by
  simp only [basePulse]
  split
  · omega
  · split <;> omega

/-! ## The shares (R89) -/

theorem shareOf_mono (base : Nat) {k m : Nat} (h : k ≤ m) : shareOf base k ≤ shareOf base m :=
  Nat.div_le_div_right (Nat.add_le_add_right (Nat.mul_le_mul_left base h) 8)

@[simp] theorem shareOf_whole (base : Nat) : shareOf base 16 = base := by
  unfold shareOf
  omega

@[simp] theorem shareOf_zero (k : Nat) : shareOf 0 k = 0 := by simp [shareOf]

/-- Settles O56: the closed form of the interpolation gives the clamped pulse, and its monotone shares split the pulse. -/
theorem heatLaws : Obligations.HeatLaws := by
  refine ⟨fun h t ht hle => ?_, fun h base hhot hwarm => ?_⟩
  · have hclamp := basePulse_clamps h t hle
    refine ⟨interpolate h.energy t, fun htop => interpolate_top _ _ htop, fun hbelow => ?_, hclamp, by omega, by omega⟩
    obtain ⟨hlow, hhigh⟩ := interpolate_between h.energy t hbelow
    exact ⟨_, Int.mul_ediv_self_le (by decide), Int.lt_mul_ediv_self_add (by decide), interpolate_below _ _ hbelow, hlow,
      hhigh, interpolate_at_entry _ _ hbelow⟩
  · have hbc : shareOf base h.kHot ≤ shareOf base h.kWarm := shareOf_mono base hhot
    have hb : shareOf base h.kWarm ≤ base := Nat.le_trans (shareOf_mono base hwarm) (Nat.le_of_eq (shareOf_whole base))
    refine ⟨rfl, Nat.sub_add_cancel hbc, Nat.sub_add_cancel hb, ?_, fun heq => ?_, fun hall => ?_, fun h0 => ?_⟩
    · simp only [durationA, durationB, durationC]
      omega
    · simp [durationB, heq]
    · simp [durationC, hall]
    · subst h0
      simp [durationA, durationB, durationC]

end Sys2Proof.Machine

/-! SUPPORT. The strobe groups of a line (R90 to R92): the walk makes the greedy partition of the blocks, and the patterns shrink from A
to B to C. -/

namespace Sys2Proof.Machine

/-! ## Dots of a group -/

theorem dotsIn_single (l : Line) (k : Nat) : dotsIn l k 1 = blockDots l k := by simp [dotsIn]

theorem dotsIn_succ (l : Line) (first n : Nat) : dotsIn l first (n + 1) = dotsIn l first n + blockDots l (first + n) := by
  simp [dotsIn, List.range_succ]

/-- A line black only where another is has no more dots in any block. -/
theorem blockDots_mono {l m : Line} (h : ∀ i, l.getLsbD i = true → m.getLsbD i = true) (b : Nat) :
    blockDots l b ≤ blockDots m b := by
  simp only [blockDots, ← List.countP_eq_length_filter]
  refine List.countP_mono_left fun i _ hi => ?_
  rw [BitVec.getLsbD_ushiftRight] at hi ⊢
  exact h _ hi

theorem dotsIn_mono {l m : Line} (h : ∀ i, l.getLsbD i = true → m.getLsbD i = true) (first n : Nat) :
    dotsIn l first n ≤ dotsIn m first n := by
  induction n with
  | zero => exact Nat.le_refl _
  | succ n ih =>
    rw [dotsIn_succ, dotsIn_succ]
    exact Nat.add_le_add ih (blockDots_mono h (first + n))

/-! ## Patterns (R90) -/

theorem patternB_getLsbD (l h1 h2 : Line) {i : Nat} (hi : i < 1728) :
    (patternB l h1 h2).getLsbD i = (l.getLsbD i && !(h1.getLsbD i && h2.getLsbD i)) := by
  simp [patternB, hi]

theorem patternC_getLsbD (l h1 : Line) {i : Nat} (hi : i < 1728) :
    (patternC l h1).getLsbD i = (l.getLsbD i && !h1.getLsbD i) := by
  simp [patternC, hi]

theorem patternB_sub (l h1 h2 : Line) (i : Nat) (h : (patternB l h1 h2).getLsbD i = true) : l.getLsbD i = true := by
  rw [patternB_getLsbD l h1 h2 (BitVec.lt_of_getLsbD h), Bool.and_eq_true] at h
  exact h.1

theorem patternC_sub (l h1 h2 : Line) (i : Nat) (h : (patternC l h1).getLsbD i = true) :
    (patternB l h1 h2).getLsbD i = true := by
  have hi := BitVec.lt_of_getLsbD h
  rw [patternC_getLsbD l h1 hi] at h
  rw [patternB_getLsbD l h1 h2 hi]
  simp_all

/-! ## The greedy walk (R91) -/

/-- A block beyond the limit is a group of its own. -/
theorem groupWalk_over {limit b n : Nat} (h : limit < n) (rest : List (Nat × Nat)) (cur : Option (Nat × Nat × Nat)) :
    groupWalk limit ((b, n) :: rest) cur = closeGroup cur ++ (b, 1) :: groupWalk limit rest none := by
  cases cur <;> simp [groupWalk, h]

theorem groupWalk_opens {limit b n : Nat} (h : n ≤ limit) (rest : List (Nat × Nat)) :
    groupWalk limit ((b, n) :: rest) none = groupWalk limit rest (some (b, 1, n)) := by
  simp [groupWalk, Nat.not_lt.mpr h]

theorem groupWalk_extends {limit b n first blocks count : Nat} (h : count + n ≤ limit) (rest : List (Nat × Nat)) :
    groupWalk limit ((b, n) :: rest) (some (first, blocks, count))
      = groupWalk limit rest (some (first, blocks + 1, count + n)) := by
  have hfits : n ≤ limit := Nat.le_trans (Nat.le_add_left n count) h
  simp [groupWalk, h, Nat.not_lt.mpr hfits]

theorem groupWalk_closes {limit b n first blocks count : Nat} (h : n ≤ limit) (hfull : limit < count + n)
    (rest : List (Nat × Nat)) :
    groupWalk limit ((b, n) :: rest) (some (first, blocks, count))
      = (first, blocks) :: groupWalk limit rest (some (b, 1, n)) := by
  simp [groupWalk, Nat.not_lt.mpr h, Nat.not_le.mpr hfull]

/-- The groups partition the blocks from k up to e: each begins where the one before it ended, exceeds the limit only as a single block,
and is followed by another only where one more block would have taken it beyond the limit. -/
def GreedyFrom (limit : Nat) (l : Line) (e : Nat) : Nat → List (Nat × Nat) → Prop
  | k, [] => k = e
  | k, g :: rest =>
    g.1 = k ∧ 0 < g.2 ∧ (limit < dotsIn l k g.2 → g.2 = 1)
      ∧ (rest ≠ [] → limit < dotsIn l k g.2 + blockDots l (k + g.2)) ∧ GreedyFrom limit l e (k + g.2) rest

/-- The blocks from k on with their black dots, as the walk takes them. -/
def countsFrom (l : Line) (k n : Nat) : List (Nat × Nat) := (List.range' k n).map fun b => (b, blockDots l b)

theorem countsFrom_succ (l : Line) (k n : Nat) : countsFrom l k (n + 1) = (k, blockDots l k) :: countsFrom l (k + 1) n := by
  simp [countsFrom, List.range'_succ]

/-- What holds of the walk's open group before block k: it is not empty, ends at k, its count is its dots and within the limit. -/
def OpenBefore (limit : Nat) (l : Line) (k : Nat) : Option (Nat × Nat × Nat) → Prop
  | none => True
  | some (first, blocks, count) => 0 < blocks ∧ first + blocks = k ∧ count = dotsIn l first blocks ∧ count ≤ limit

/-- The first block that the walk has not put in a closed group. -/
def firstOpen (k : Nat) : Option (Nat × Nat × Nat) → Nat
  | none => k
  | some (first, _, _) => first

theorem openBefore_single {limit : Nat} {l : Line} {k : Nat} (h : blockDots l k ≤ limit) :
    OpenBefore limit l (k + 1) (some (k, 1, blockDots l k)) :=
  ⟨Nat.one_pos, rfl, (dotsIn_single l k).symm, h⟩

/-- Closing the open group where the next block exceeds what is left of the limit keeps the partition greedy. -/
theorem greedyFrom_close {limit : Nat} {l : Line} {e k : Nat} {cur : Option (Nat × Nat × Nat)} {rest : List (Nat × Nat)}
    (hopen : OpenBefore limit l k cur) (hfull : ∀ first blocks count, cur = some (first, blocks, count) →
      limit < count + blockDots l k) (hrest : GreedyFrom limit l e k rest) :
    GreedyFrom limit l e (firstOpen k cur) (closeGroup cur ++ rest) := by
  match cur with
  | none => exact hrest
  | some (first, blocks, count) =>
    obtain ⟨hpos, rfl, rfl, hle⟩ := hopen
    exact ⟨rfl, hpos, fun hover => absurd hle (Nat.not_le.mpr hover), fun _ => hfull _ _ _ rfl, hrest⟩

theorem groupWalk_greedy (limit : Nat) (l : Line) (n : Nat) :
    ∀ (k : Nat) (cur : Option (Nat × Nat × Nat)), OpenBefore limit l k cur →
      GreedyFrom limit l (k + n) (firstOpen k cur) (groupWalk limit (countsFrom l k n) cur) := by
  induction n with
  | zero =>
    intro k cur hopen
    match cur with
    | none => rfl
    | some (first, blocks, count) =>
      obtain ⟨hpos, hend, rfl, hle⟩ := hopen
      exact ⟨rfl, hpos, fun hover => absurd hle (Nat.not_le.mpr hover), fun hne => absurd rfl hne, hend⟩
  | succ n ih =>
    intro k cur hopen
    have hstep := ih (k + 1)
    rw [Nat.succ_add_eq_add_succ] at hstep
    rw [countsFrom_succ]
    rcases Nat.lt_or_ge limit (blockDots l k) with hover | hfits
    · rw [groupWalk_over hover]
      refine greedyFrom_close hopen (fun _ _ _ _ => Nat.lt_add_left _ hover) ?_
      exact ⟨rfl, Nat.one_pos, fun _ => rfl, fun _ => by rw [dotsIn_single]; exact Nat.lt_add_right _ hover,
        hstep none trivial⟩
    · have hsingle := hstep _ (openBefore_single hfits)
      match cur with
      | none => rwa [groupWalk_opens hfits]
      | some (first, blocks, count) =>
        rcases Nat.lt_or_ge limit (count + blockDots l k) with hfull | hroom
        · rw [groupWalk_closes hfits hfull]
          refine greedyFrom_close hopen (fun _ _ _ heq => ?_) hsingle
          cases heq
          exact hfull
        · rw [groupWalk_extends hroom]
          obtain ⟨hpos, rfl, rfl, -⟩ := hopen
          exact hstep (some (first, blocks + 1, _)) ⟨Nat.succ_pos _, rfl, (dotsIn_succ l first blocks).symm, hroom⟩

/-! ## What a greedy partition gives -/

section
variable {limit : Nat} {l : Line} {e : Nat}

theorem GreedyFrom.covers : ∀ {k : Nat} {gs : List (Nat × Nat)}, GreedyFrom limit l e k gs →
    k ≤ e ∧ (gs.map fun g => (List.range g.2).map fun i => g.1 + i).flatten = List.range' k (e - k)
  | k, [], h => by
    obtain rfl : k = e := h
    simp
  | k, g :: rest, ⟨hk, _, _, _, hrest⟩ => by
    obtain ⟨hle, hcover⟩ := GreedyFrom.covers hrest
    refine ⟨by omega, ?_⟩
    have happend := List.range'_append (s := k) (m := g.2) (n := e - (k + g.2)) (step := 1)
    rw [List.map_cons, List.flatten_cons, hcover, hk, ← List.range'_eq_map_range]
    rw [Nat.one_mul] at happend
    rw [happend]
    congr 1
    omega

theorem GreedyFrom.group : ∀ {k : Nat} {gs : List (Nat × Nat)}, GreedyFrom limit l e k gs →
    ∀ g ∈ gs, 0 < g.2 ∧ (limit < dotsIn l g.1 g.2 → g.2 = 1)
  | _, [], _ => fun _ hg => absurd hg List.not_mem_nil
  | k, g :: rest, ⟨hk, hpos, hover, _, hrest⟩ => by
    rintro g' (_ | ⟨_, hg'⟩)
    · exact ⟨hpos, hk ▸ hover⟩
    · exact GreedyFrom.group hrest g' hg'

theorem GreedyFrom.adjacent {g g' : Nat × Nat} {after : List (Nat × Nat)} :
    ∀ (before : List (Nat × Nat)) {k : Nat}, GreedyFrom limit l e k (before ++ g :: g' :: after) →
      limit < dotsIn l g.1 g.2 + blockDots l g'.1
  | [], k, ⟨hk, _, _, hfull, hrest⟩ => by
    rw [hk, hrest.1]
    exact hfull (List.cons_ne_nil _ _)
  | _ :: before, _, ⟨_, _, _, _, hrest⟩ => GreedyFrom.adjacent before hrest

end

/-! ## The plan of a line -/

section
variable (h : HeatTable) (temp : Nat) (l h1 h2 : Line)

/-- The plan's groups as first block and number of blocks. -/
def planWalk : List (Nat × Nat) := groupWalk h.dotLimit (countsFrom l 0 8) none

theorem planWalk_greedy : GreedyFrom h.dotLimit l 8 0 (planWalk h l) :=
  groupWalk_greedy h.dotLimit l 8 0 none trivial

/-- A group of the plan with its dots of the three kinds. -/
def planGroup (g : Nat × Nat) : Group :=
  { first := g.1, blocks := g.2, dotsA := dotsIn l g.1 g.2, dotsB := dotsIn (patternB l h1 h2) g.1 g.2
    dotsC := dotsIn (patternC l h1) g.1 g.2 }

theorem makePlan_groups : (makePlan h temp l h1 h2).groups = (planWalk h l).map (planGroup l h1 h2) := rfl

theorem makePlan_overLines : (makePlan h temp l h1 h2).overLines =
    if (countsFrom l 0 8).any (fun n => decide (h.dotLimit < n.2)) then 1 else 0 := rfl

theorem counts_any_iff : (countsFrom l 0 8).any (fun n => decide (h.dotLimit < n.2)) = true
    ↔ ∃ b, b < 8 ∧ h.dotLimit < blockDots l b := by
  simp [countsFrom]

theorem mem_makePlan_kinds (k : HeatKind) : k ∈ (makePlan h temp l h1 h2).kinds
    ↔ (∃ g ∈ (makePlan h temp l h1 h2).groups, 0 < g.dots k) ∧ 0 < (makePlan h temp l h1 h2).duration k := by
  have hall : k ∈ [HeatKind.a, .b, .c] := by cases k <;> simp
  have hkinds : k ∈ (makePlan h temp l h1 h2).kinds ↔ (makePlan h temp l h1 h2).runs k = true :=
    List.mem_filter.trans (and_iff_right hall)
  rw [hkinds]
  simp [Plan.runs, Plan.groupsOf, Nat.pos_iff_ne_zero]

theorem planGroup_dots_le (g : Nat × Nat) :
    (planGroup l h1 h2 g).dotsC ≤ (planGroup l h1 h2 g).dotsB ∧ (planGroup l h1 h2 g).dotsB ≤ (planGroup l h1 h2 g).dotsA :=
  ⟨dotsIn_mono (patternC_sub l h1 h2) g.1 g.2, dotsIn_mono (patternB_sub l h1 h2) g.1 g.2⟩

end

/-- Settles O57: the walk's groups are the greedy partition, and each property is read off it. -/
theorem strobeGroupsLaw : Obligations.StrobeGroupsLaw := by
  intro h temp l h1 h2
  have hgreedy := planWalk_greedy h l
  refine ⟨?_, ?_, ?_, ?_, ?_, fun i hi => ⟨rfl, patternB_getLsbD l h1 h2 hi, patternC_getLsbD l h1 hi⟩,
    mem_makePlan_kinds h temp l h1 h2⟩
  · rw [makePlan_groups, List.map_map, List.range_eq_range']
    exact hgreedy.covers.2
  · rw [makePlan_groups]
    intro _ hmem
    obtain ⟨g, hg, rfl⟩ := List.mem_map.mp hmem
    obtain ⟨hpos, hover⟩ := hgreedy.group g hg
    exact ⟨hpos, rfl, hover, planGroup_dots_le l h1 h2 g⟩
  · intro before g g' after heq
    rw [makePlan_groups] at heq
    obtain ⟨walkBefore, walkFrom, hwalk, -, htail⟩ := List.map_eq_append_iff.mp heq
    obtain ⟨w, walkRest, rfl, rfl, hrest⟩ := List.map_eq_cons_iff.mp htail
    obtain ⟨w', walkAfter, rfl, rfl, -⟩ := List.map_eq_cons_iff.mp hrest
    exact GreedyFrom.adjacent walkBefore (hwalk ▸ hgreedy)
  · intro hsome
    rw [makePlan_overLines, if_pos ((counts_any_iff h l).mpr hsome)]
  · intro hnone
    rw [makePlan_overLines, if_neg]
    rw [counts_any_iff]
    rintro ⟨b, hb, hover⟩
    exact absurd (hnone b hb) (Nat.not_le.mpr hover)

end Sys2Proof.Machine

/-! SUPPORT. A NUDGE write of one cut bit (R122, R124, R146): the write as such, the hand-over to the engine, and the ends it brings. -/

namespace Sys2Proof.Machine

/-! ## One chain replaced -/

@[simp] theorem Chains.get_set_same (cs : Chains) (c : ChainId) (v : Chain) : (cs.set c v).get c = v := by cases c <;> rfl

@[simp] theorem withChain_chain_same (c : ChainId) (ch : Chain) (s : State) : (withChain c ch s).chain c = ch :=
  Chains.get_set_same ..

/-- The state with a chain's cut pending. -/
def marked (c : ChainId) (s : State) : State := withChain c { s.chain c with cutPending := true } s

theorem marked_eq_updChain (c : ChainId) (s : State) :
    marked c s = s.updChain c fun ch => { ch with cutPending := true } := rfl

@[simp] theorem marked_chain_same (c : ChainId) (s : State) : (marked c s).chain c = { s.chain c with cutPending := true } :=
  withChain_chain_same ..

@[simp] theorem ending_chain_taken (c : ChainId) (r : Taken) (o : RecordOutcome) (why : Reason) (results : List (Nat × List Byte))
    (s : State) : ((ending c r o why results s).chain c).taken = some { r with stage := .ending o (s.chain c).cutPending } := by
  simp [ending]

/-! ## The writes of an end (R119) -/

theorem asking_asking (xs ys : List Xfer) (s : State) : asking ys (asking xs s) = asking (xs ++ ys) s := by
  simp [asking]

theorem toActive_of_active {s : State} (h : s.power.state = .active) : toActive s = s := by simp [toActive, h]

/-- In ACTIVE no request is held: the write is asked for behind those that wait. -/
theorem askWrite_of_active {s : State} (h : s.power.state = .active) (tag : Tag) (a : Nat) (bytes : List Byte) :
    askWrite tag a bytes s = asking [{ tag := tag, addr := a, data := .write bytes, note := none }] s := by
  simp [askWrite, ask, requestsHeld, h, asking, State.updDram, Dram.setQueue, Dram.queue]

theorem askResults_of_active (c : ChainId) (addr : Nat) (results : List (Nat × List Byte)) :
    ∀ s : State, s.power.state = .active →
      results.foldl (fun s f => askWrite (.result c) (addr + f.1) f.2 s) s
        = asking (results.map fun f => { tag := .result c, addr := addr + f.1, data := .write f.2, note := none }) s := by
  induction results with
  | nil => intro s _; simp [asking]
  | cons f rest ih =>
    intro s h
    rw [List.foldl_cons, askWrite_of_active h, ih (asking _ s) h, asking_asking, List.map_cons, List.singleton_append]

theorem askEndWrites_of_active {s : State} (h : s.power.state = .active) (c : ChainId) (r : Taken) (o : RecordOutcome)
    (why : Reason) (results : List (Nat × List Byte)) :
    askEndWrites c r o why results s = asking (endXfers c r.addr o why results) s := by
  have hact : ∀ xs, (asking xs s).power.state = .active := fun _ => h
  simp only [askEndWrites]
  rw [askResults_of_active c r.addr results s h, askWrite_of_active (hact _), asking_asking, askWrite_of_active (hact _),
    asking_asking, List.append_assoc]
  rfl

/-- In ACTIVE a record whose outcome is open ends as `ending` says. -/
theorem endRecord_eq_ending {s : State} {c : ChainId} {r : Taken} (hactive : s.power.state = .active)
    (htaken : (s.chain c).taken = some r) (hopen : ∀ o park, r.stage ≠ .ending o park) (o : RecordOutcome) (why : Reason)
    (results : List (Nat × List Byte)) : endRecord c o why results s = ending c r o why results s := by
  simp only [endRecord, htaken]
  rw [toActive_of_active hactive, askEndWrites_of_active hactive]
  rfl

/-- A record in work ends as `ending` says, its cut pending or not. -/
theorem endRecord_marked {s : State} {c : ChainId} {r : Taken} (hactive : s.power.state = .active)
    (htaken : (s.chain c).taken = some r) (hstage : r.stage = .working) (o : RecordOutcome) (why : Reason)
    (results : List (Nat × List Byte)) : endRecord c o why results (marked c s) = ending c r o why results (marked c s) :=
  endRecord_eq_ending (s := marked c s) hactive (by simp [htaken]) (by simp [hstage]) o why results

/-! ## Settling where the idle timer has just restarted -/

/-- Calm, with the idle timer just restarted: nothing follows an event. -/
def calmAtZero (s : State) : Prop := calm s ∧ s.power.idleTimer = 0

theorem settle_calmAtZero {s : State} (h : calmAtZero s) : settle s = s := by
  obtain ⟨hcalm, hidle⟩ := h
  rw [settle_calm s hcalm, rested]
  split
  · rfl
  · rw [← hidle]

theorem calmAtZero.active {s : State} (h : calmAtZero s) : s.power.state = .active := by
  obtain ⟨⟨-, -, -, -, -, hstate, -⟩, -⟩ := h
  exact hstate

/-! ## The NUDGE write (R122, R146) -/

/-- The state that a NUDGE write leaves to the engines where no power request is armed and the part is ACTIVE. -/
def nudged (s : State) : State := { s with bus := writtenBus, power := { s.power with idleTimer := 0 } }

theorem nudged_calmAtZero {s : State} (h : calm s) : calmAtZero (nudged s) := ⟨h, rfl⟩

theorem hostWrites_of_free {s : State} (h : hostFree s) : hostWrites s = { s with bus := writtenBus } := by
  simp [hostWrites, finishHostCycle, hostCycleEnds, State.updBus, writtenBus, h.2]

theorem nudgePower_of_calm {s : State} (h : calm s) :
    nudgePower s = { s with power := { s.power with idleTimer := 0 } } := by
  obtain ⟨-, -, -, -, hslot, hstate, -⟩ := h
  simp [nudgePower, toActive, State.updPower, hslot, hstate]

theorem nudgePower_hostWrites {s : State} (hfree : hostFree s) (hcalm : calm s) : nudgePower (hostWrites s) = nudged s := by
  rw [hostWrites_of_free hfree]
  exact nudgePower_of_calm (s := { s with bus := writtenBus }) hcalm

/-- The NUDGE word with the cut bit of one chain alone. -/
def cutBit (c : ChainId) : Half := 1#16 <<< (8 + chainIndex c)

theorem cutBit_cuts (c e : ChainId) : (cutBit c).getLsbD (8 + chainIndex e) = decide (e = c) := by
  cases c <;> cases e <;> rfl

theorem cutBit_follows (c e : ChainId) : (cutBit c).getLsbD (chainIndex e) = false := by
  cases c <;> cases e <;> rfl

/-- Going over all chains, an action on one of them alone is that action. -/
theorem foldl_allChains_one (c : ChainId) (f : ChainId → State → State) (s : State) :
    allChains.foldl (fun s e => if decide (e = c) then f e s else s) s = f c s := by
  cases c <;> rfl

theorem foldl_allChains_none (f : ChainId → State → State) (s : State) :
    allChains.foldl (fun s e => if false = true then f e s else s) s = s := rfl

theorem exec_cutBit {s : State} (c : ChainId) (hfree : hostFree s) (hcalm : calm s) (hrun : s.regs.engine = .running) :
    exec (.cut (cutBit c)) s = .next (settle (cutChain c (nudged s))) := by
  have hexec : exec (.cut (cutBit c)) s = .next (nudge (cutBit c) (hostWrites s)) :=
    congrArg Host.Outcome.next (if_pos hfree.1)
  have hnot : ¬ (nudged s).regs.engine ≠ .running := fun hne => hne hrun
  rw [hexec, nudge, nudgePower_hostWrites hfree hcalm, if_neg hnot]
  simp only [cutBit_cuts, cutBit_follows, foldl_allChains_one, foldl_allChains_none]

/-- What a cut bit does where the hand-over leaves nothing to follow. -/
theorem exec_cutBit_of_eq {s t : State} {c : ChainId} (hfree : hostFree s) (hcalm : calm s) (hrun : s.regs.engine = .running)
    (hcut : cutChain c (nudged s) = t) (ht : calmAtZero t) : exec (.cut (cutBit c)) s = .next t := by
  rw [exec_cutBit c hfree hcalm hrun, hcut, settle_calmAtZero ht]

/-! ## A cut bit on one chain (R124) -/

section
variable {s : State} {c : ChainId} {r : Taken}

theorem inWork_of_taken (htaken : (s.chain c).taken = some r) (hopen : ∀ o park, r.stage ≠ .ending o park) :
    inWork s c = some r := by
  simp only [inWork, htaken]

theorem inWork_ending (c : ChainId) (r : Taken) (o : RecordOutcome) (why : Reason) (results : List (Nat × List Byte))
    (s : State) : inWork (ending c r o why results s) c = none := by
  simp [inWork]

theorem actHanded_of_not_handed (h : ∀ r, (s.chain c).taken = some r → r.stage ≠ .handed) : actHanded c s = s := by
  unfold actHanded
  split
  next r htaken => exact if_neg (h r htaken)
  next => rfl

theorem actHanded_of_handed (htaken : (s.chain c).taken = some r) (hstage : r.stage = .handed) :
    actHanded c s = actKind c r.kind s := by
  simp [actHanded, htaken, hstage]

theorem handed_of_justHanded {k : Kind} (h : justHanded c k r s) : handed s c k = some r := by
  obtain ⟨htaken, hkind, hstage, -⟩ := h
  simp [handed, htaken, hkind, hstage]

theorem not_handed_of_inWork_none (h : inWork s c = none) : ∀ r, (s.chain c).taken = some r → r.stage ≠ .handed := by
  intro r htaken hstage
  have hwork := inWork_of_taken htaken (by simp [hstage])
  simp [h] at hwork

theorem cutChain_of_inWork_none (h : inWork s c = none) : cutChain c s = s := by
  simp [cutChain, actHanded_of_not_handed (not_handed_of_inWork_none h), h]

theorem cutChain_of_pending (hpending : (s.chain c).cutPending = true)
    (h : ∀ r, (s.chain c).taken = some r → r.stage ≠ .handed) : cutChain c s = s := by
  simp only [cutChain, actHanded_of_not_handed h, hpending, if_true]
  split <;> rfl

/-- A cut bit on a record its engine has begun: it is pending, and the engine is told. -/
theorem cutChain_of_working (htaken : (s.chain c).taken = some r) (hstage : r.stage = .working)
    (hpending : (s.chain c).cutPending = false) : cutChain c s = engineCut c (marked c s) := by
  have hact : actHanded c s = s := actHanded_of_not_handed fun r' h' => by simp_all
  have hwork : inWork s c = some r := inWork_of_taken htaken (by simp [hstage])
  simp [cutChain, hact, hwork, hpending, marked_eq_updChain]

/-- A cut bit finds a record just handed over as its engine leaves it (log entry 19). -/
theorem cutChain_of_handed {t : State} (htaken : (s.chain c).taken = some r) (hstage : r.stage = .handed)
    (hact : actKind c r.kind s = t) (ht : ∀ r, (t.chain c).taken = some r → r.stage ≠ .handed) :
    cutChain c s = cutChain c t := by
  simp only [cutChain, actHanded_of_handed htaken hstage, hact, actHanded_of_not_handed ht]

/-- A record that its engine ends as it is handed over is not cut. -/
theorem cutChain_of_handed_ending {t : State} {o : RecordOutcome} {why : Reason} {results : List (Nat × List Byte)}
    (htaken : (s.chain c).taken = some r) (hstage : r.stage = .handed)
    (hact : actKind c r.kind s = ending c r o why results t) : cutChain c s = ending c r o why results t := by
  have hdone := inWork_ending c r o why results t
  rw [cutChain_of_handed htaken hstage hact (not_handed_of_inWork_none hdone), cutChain_of_inWork_none hdone]

end

/-! ## Records just handed over (R87, R106) -/

section
variable {s : State} {r : Taken}

theorem calmAtZero_ending {c : ChainId} {o : RecordOutcome} {why : Reason} {results : List (Nat × List Byte)}
    (h : calmAtZero s) : calmAtZero (ending c r o why results s) := h

theorem actHeatTableLoad_bad (hcalm : calmAtZero s) (hhanded : justHanded .print .heatTableLoad r s)
    (hbad : heatTableOf r.body = none) :
    actHeatTableLoad s = ending .print r .failed .badTable [resultWord 0] s := by
  have hrec := handed_of_justHanded hhanded
  obtain ⟨htaken, -, hstage, -⟩ := hhanded
  simp only [actHeatTableLoad, hrec, hbad]
  rw [endRecord_eq_ending hcalm.active htaken (by simp [hstage]), settle_calmAtZero (calmAtZero_ending hcalm)]

theorem actHeatTableLoad_good {table : HeatTable} (hcalm : calmAtZero s) (hhanded : justHanded .print .heatTableLoad r s)
    (hgood : heatTableOf r.body = some table) :
    actHeatTableLoad s = ending .print r .done .none [resultWord 0] (s.updPrint fun u => { u with heat := table }) := by
  have hrec := handed_of_justHanded hhanded
  obtain ⟨htaken, -, hstage, -⟩ := hhanded
  have hcalm' : calmAtZero (s.updPrint fun u => { u with heat := table }) := hcalm
  simp only [actHeatTableLoad, hrec, hgood]
  rw [endRecord_eq_ending hcalm'.active htaken (by simp [hstage]), settle_calmAtZero (calmAtZero_ending hcalm')]

/-- The state in which a CONDITION WAIT that does not match has begun (R106). -/
def waitBegun (m v : BitVec 4) (ms : Nat) (s : State) : State :=
  (setWorking .send s).updModem fun u =>
    { u with sendWork := some (.wait m v s.now ms), waitTimer := if ms = 0 then none else some (ms * 1000) }

theorem waitBegun_taken {m v : BitVec 4} {ms : Nat} (htaken : (s.chain .send).taken = some r) :
    ((waitBegun m v ms s).chain .send).taken = some { r with stage := .working } := by
  have hmap : ((waitBegun m v ms s).chain .send).taken
      = (s.chain .send).taken.map fun t => { t with stage := .working } := rfl
  rw [hmap, htaken]
  rfl

theorem actConditionWait_begins {m v : BitVec 4} {ms : Nat} (hcalm : calmAtZero s)
    (hhanded : justHanded .send .conditionWait r s) (hbody : conditionRequest r.body = some (m, v, ms))
    (hup : s.modem.linkUp = true) (hcode : s.modem.code &&& m ≠ v) : actConditionWait s = waitBegun m v ms s := by
  have hcalm' : calmAtZero (waitBegun m v ms s) := hcalm
  have hmiss : conditionMatches m v (setWorking .send s).modem.code = false := decide_eq_false hcode
  have hstart : startWait m v ms (setWorking .send s) = waitBegun m v ms s := by
    rw [startWait, hmiss]
    rfl
  simp only [actConditionWait, handed_of_justHanded hhanded, hbody, hup, hstart, settle_calmAtZero hcalm']
  simp

end

/-! ## Records in work (R102, R106, R109, R110) -/

section
variable {s : State} {r : Taken}

/-- The end of a CONDITION WAIT in work: the latest code and the whole ms waited (R106, log entry 12). -/
theorem endSend_wait {m v : BitVec 4} {t0 ms : Nat} (hwork : s.modem.sendWork = some (.wait m v t0 ms)) (o : RecordOutcome)
    (why : Reason) :
    endSend o why s = (endRecord .send o why
      [(16, be8 s.modem.code.toNat), resultWord (min ((s.now - t0) / 1000) 4294967295)] s).updModem fun u =>
        { u with sendWork := none, waitTimer := none } := by
  simp only [endSend, endSendAfter, hwork, SendWork.results, SendWork.since, msSince]

/-- The end of a SEND BLOCK in work: its count, its fetches withdrawn, the send store emptied (R102). -/
theorem endSend_block {j : SendBlockJob} (hwork : s.modem.sendWork = some (.block j)) (o : RecordOutcome) (why : Reason) :
    endSend o why s = (withdrawFrom .modem (fun t => t == Tag.sendFetch)
      (endRecord .send o why [(22, be16 j.sent), resultWord j.sent] s)).updModem fun u =>
        { u with store := [], fetching := 0, sendWork := none, waitTimer := none } := by
  simp only [endSend, endSendAfter, hwork, SendWork.results]
  rfl

theorem cutSend_wait {m v : BitVec 4} {t0 ms : Nat} (hwork : s.modem.sendWork = some (.wait m v t0 ms)) :
    cutSend s = endSend .cut .cutByHost s := by simp only [cutSend, hwork]

theorem cutSend_block {j : SendBlockJob} (hwork : s.modem.sendWork = some (.block j)) :
    cutSend s = endSend .cut .cutByHost (enterAborting s) := by simp only [cutSend, hwork]

theorem cutReceive_empty {j : ReceiveJob} (hwork : s.modem.receiveWork = some j) (hlatch : s.modem.latch = none) :
    cutReceive s = endReceive .cut .cutByHost false j s := by
  simp [cutReceive, stopReceive, hwork, hlatch]

theorem cutReceive_latched {j : ReceiveJob} (hwork : s.modem.receiveWork = some j) (hlatch : s.modem.latch ≠ none)
    (hopen : j.outcome = none) :
    cutReceive s = s.updModem fun u => { u with receiveWork := some { j with outcome := some (.cut, .cutByHost) } } := by
  simp [cutReceive, stopReceive, hwork, hlatch, hopen]

theorem withdrawFrom_modem_chain (drop : Tag → Bool) : (withdrawFrom .modem drop s).dram.chain = s.dram.chain := by
  simp only [withdrawFrom, State.updDram_dram]
  split
  · rfl
  · split <;> rfl

/-- A CONDITION WAIT in work is cut. -/
theorem cutChain_wait {m v : BitVec 4} {t0 ms : Nat} (hactive : s.power.state = .active)
    (htaken : (s.chain .send).taken = some r) (hstage : r.stage = .working) (hpending : (s.chain .send).cutPending = false)
    (hwork : s.modem.sendWork = some (.wait m v t0 ms)) :
    cutChain .send s = ending .send r .cut .cutByHost
      [(16, be8 s.modem.code.toNat), resultWord (min ((s.now - t0) / 1000) 4294967295)]
      (marked .send (s.updModem fun u => { u with sendWork := none, waitTimer := none })) := by
  have hmarked : (marked .send s).modem.sendWork = some (.wait m v t0 ms) := hwork
  rw [cutChain_of_working htaken hstage hpending, engineCut, cutSend_wait hmarked, endSend_wait hmarked,
    endRecord_marked hactive htaken hstage]
  rfl

/-- The unit ABORTING after a cut of its block: count 0, the run closed, store and fetches empty (R101, R102, log entry 67). -/
def blockCut (m : Modem) : Modem :=
  { m with
    send := .aborting 0, waited := 0, runOpen := false, underrun := false, fillCount := 0, store := [], fetching := 0
    sendWork := none, waitTimer := none }

/-- A SEND BLOCK in work is cut. -/
theorem cutChain_block {j : SendBlockJob} (hactive : s.power.state = .active)
    (htaken : (s.chain .send).taken = some r) (hstage : r.stage = .working) (hpending : (s.chain .send).cutPending = false)
    (hwork : s.modem.sendWork = some (.block j)) :
    cutChain .send s = withdrawFrom .modem (fun t => t == Tag.sendFetch)
      (ending .send r .cut .cutByHost [(22, be16 j.sent), resultWord j.sent] (marked .send (s.updModem blockCut))) := by
  have hmarked : (marked .send s).modem.sendWork = some (.block j) := hwork
  have haborting : (enterAborting (marked .send s)).modem.sendWork = some (.block j) := hwork
  have hcomm : enterAborting (marked .send s) = marked .send (enterAborting s) := rfl
  rw [cutChain_of_working htaken hstage hpending, engineCut, cutSend_block hmarked, endSend_block haborting, hcomm,
    endRecord_marked (s := enterAborting s) hactive htaken hstage]
  rfl

/-- A RECEIVE BUFFER in work with the latch empty is cut (log entry 53). -/
theorem cutChain_receive_empty {j : ReceiveJob} (hactive : s.power.state = .active)
    (htaken : (s.chain .receive).taken = some r) (hstage : r.stage = .working)
    (hpending : (s.chain .receive).cutPending = false) (hwork : s.modem.receiveWork = some j)
    (hlatch : s.modem.latch = none) :
    cutChain .receive s = ending .receive r .cut .cutByHost [(18, [0]), resultWord j.count]
      (marked .receive (s.updModem fun u => { u with receiveWork := none })) := by
  rw [cutChain_of_working htaken hstage hpending, engineCut, cutReceive_empty (s := marked .receive s) hwork hlatch,
    endReceive, endRecord_marked hactive htaken hstage]
  rfl

/-- A RECEIVE BUFFER with a byte in the latch keeps its outcome for the write's completion. -/
theorem cutChain_receive_latched {j : ReceiveJob} (htaken : (s.chain .receive).taken = some r)
    (hstage : r.stage = .working) (hpending : (s.chain .receive).cutPending = false)
    (hwork : s.modem.receiveWork = some j) (hlatch : s.modem.latch ≠ none) (hopen : j.outcome = none) :
    cutChain .receive s = marked .receive (s.updModem fun u =>
      { u with receiveWork := some { j with outcome := some (.cut, .cutByHost) } }) := by
  rw [cutChain_of_working htaken hstage hpending, engineCut,
    cutReceive_latched (s := marked .receive s) hwork hlatch hopen]
  rfl

/-- A CONDITION WAIT just handed over that does not match begins and is cut, with 0 ms waited (log entries 12, 19). -/
theorem cutChain_wait_handed {m v : BitVec 4} {ms : Nat} (hcalm : calmAtZero s)
    (hhanded : justHanded .send .conditionWait r s) (hbody : conditionRequest r.body = some (m, v, ms))
    (hup : s.modem.linkUp = true) (hcode : s.modem.code &&& m ≠ v) :
    cutChain .send s = ending .send r .cut .cutByHost [(16, be8 s.modem.code.toNat), resultWord 0]
      (marked .send (s.updModem fun u => { u with sendWork := none, waitTimer := none })) := by
  have hbegins := actConditionWait_begins hcalm hhanded hbody hup hcode
  obtain ⟨htaken, hkind, hstage, hpending⟩ := hhanded
  have hact : actKind .send r.kind s = waitBegun m v ms s := by rw [hkind, actKind, hbegins]
  have hworking := waitBegun_taken (m := m) (v := v) (ms := ms) htaken
  have hbegun : ∀ r', ((waitBegun m v ms s).chain .send).taken = some r' → r'.stage ≠ .handed := by
    intro r' h'
    rw [hworking, Option.some.injEq] at h'
    simp [← h']
  have hms : min (((waitBegun m v ms s).now - s.now) / 1000) 4294967295 = 0 := by
    rw [show (waitBegun m v ms s).now = s.now from rfl, Nat.sub_self]
    rfl
  rw [cutChain_of_handed htaken hstage hact hbegun,
    cutChain_wait (s := waitBegun m v ms s) hcalm.active hworking rfl hpending rfl, hms]
  rfl

end

/-! ## The statement -/

/-- Settles O24: the bit reaches its chain alone, the chain's cut is the one its record's stage and unit give, and nothing
follows it in the calm state it leaves. -/
theorem cutActs : Obligations.CutActs := by
  intro s c hfree hcalm hrun
  have hzero : calmAtZero (nudged s) := nudged_calmAtZero hcalm
  have hactive : (nudged s).power.state = .active := hzero.active
  have hexec {t : State} := exec_cutBit_of_eq (t := t) (c := c) hfree hcalm hrun
  refine ⟨?_, ?_, ?_, ?_, ?_, ?_, ?_⟩
  · intro hnone
    exact hexec (cutChain_of_inWork_none (s := nudged s) hnone) hzero
  · intro hpending hstage
    exact hexec (cutChain_of_pending (s := nudged s) hpending hstage) hzero
  · rintro r rfl hhanded
    have hhanded' : justHanded .print .heatTableLoad r (nudged s) := hhanded
    obtain ⟨htaken, hkind, hstage, -⟩ := hhanded'
    have hact : actKind .print r.kind (nudged s) = actHeatTableLoad (nudged s) := by rw [hkind, actKind]
    constructor
    · intro hbad
      exact hexec (cutChain_of_handed_ending htaken hstage (hact.trans (actHeatTableLoad_bad hzero hhanded hbad))) hzero
    · intro table hgood
      exact hexec (cutChain_of_handed_ending htaken hstage (hact.trans (actHeatTableLoad_good hzero hhanded hgood))) hzero
  · rintro r m v ms rfl hhanded hbody hup hcode
    exact hexec (cutChain_wait_handed hzero hhanded hbody hup hcode) hzero
  · rintro r m v t0 ms rfl ⟨htaken, hstage, hpending⟩ hwork
    exact hexec (cutChain_wait (s := nudged s) hactive htaken hstage hpending hwork) hzero
  · rintro r j rfl ⟨htaken, hstage, hpending⟩ hwork
    refine ⟨_, hexec (cutChain_block (s := nudged s) hactive htaken hstage hpending hwork) hzero, rfl, rfl,
      withdrawFrom_modem_chain _, ⟨?_, ?_, ?_⟩, rfl, rfl, rfl, rfl, rfl⟩
    · exact congrArg Frame.cells (withdrawFrom_frame _ _ _)
    · exact congrArg Frame.fitted (withdrawFrom_frame _ _ _)
    · exact congrArg Frame.installed (withdrawFrom_frame _ _ _)
  · rintro r j rfl ⟨htaken, hstage, hpending⟩ hwork
    constructor
    · intro hlatch
      exact hexec (cutChain_receive_empty (s := nudged s) hactive htaken hstage hpending hwork hlatch) hzero
    · intro hlatch hopen
      exact hexec (cutChain_receive_latched (s := nudged s) htaken hstage hpending hwork hlatch hopen) hzero

end Sys2Proof.Machine

/-! SUPPORT. SEND and RECEIVE records just handed over (R96, R98, R102, R105, R106, R109): field checks, refusals and beginnings. -/

namespace Sys2Proof.Machine

/-! ## Settling where every unit waits -/

theorem calm.active {s : State} (h : calm s) : s.power.state = .active := by
  obtain ⟨-, -, -, -, -, hactive, -⟩ := h
  exact hactive

theorem atRest.active {s : State} (h : atRest s) : s.power.state = .active := by
  obtain ⟨⟨-, hactive, -⟩, -⟩ := h
  exact hactive

theorem rested_eq (s : State) : ∃ n, rested s = { s with power := { s.power with idleTimer := n } } := by
  unfold rested
  split
  · exact ⟨s.power.idleTimer, rfl⟩
  · exact ⟨0, rfl⟩

@[simp] theorem rested_dram (s : State) : (rested s).dram = s.dram := by
  obtain ⟨n, h⟩ := rested_eq s
  rw [h]

@[simp] theorem rested_chains (s : State) : (rested s).chains = s.chains := by
  obtain ⟨n, h⟩ := rested_eq s
  rw [h]

@[simp] theorem rested_chain (c : ChainId) (s : State) : (rested s).chain c = s.chain c :=
  congrArg (·.get c) (rested_chains s)

theorem keptBut_rested {c : ChainId} {s t : State} (h : keptBut c s t) : keptBut c s (rested t) := by
  obtain ⟨hmemory, hhost, hpower, hchains⟩ := h
  obtain ⟨n, hn⟩ := rested_eq t
  rw [hn]
  refine ⟨hmemory, hhost, ?_, hchains⟩
  show { t.power with idleTimer := n } = { s.power with idleTimer := n }
  rw [hpower]

theorem keptEngines_rested {s t : State} (h : keptEngines s t) : keptEngines s (rested t) := by
  obtain ⟨n, hn⟩ := rested_eq t
  rw [hn]
  exact h

theorem EndsWith.rested {c : ChainId} {r : Taken} {o : RecordOutcome} {why : Reason} {s t : State}
    (h : EndsWith c r o why s t) : EndsWith c r o why s (rested t) := by
  simpa [EndsWith] using h

/-! ## The end of a record, and its beginning -/

theorem Chains.get_set_other (cs : Chains) {c e : ChainId} (v : Chain) (h : e ≠ c) : (cs.set c v).get e = cs.get e := by
  cases c <;> cases e <;> first | rfl | exact absurd rfl h

theorem ending_keptBut (c : ChainId) (r : Taken) (o : RecordOutcome) (why : Reason) (results : List (Nat × List Byte))
    (s : State) : keptBut c s (ending c r o why results s) :=
  ⟨⟨rfl, rfl, rfl⟩, ⟨rfl, rfl, rfl⟩, rfl, fun _ h => Chains.get_set_other _ _ h⟩

theorem ending_endsWith (c : ChainId) (r : Taken) (o : RecordOutcome) (why : Reason) (results : List (Nat × List Byte))
    (s : State) : EndsWith c r o why s (ending c r o why results s) := by
  refine ⟨ending_chain_taken .., s.dram.chain ++ results.map fun f =>
    { tag := .result c, addr := r.addr + f.1, data := .write f.2, note := none }, [], ?_⟩
  simp [ending, withChain, asking, endXfers]

/-- The state in which the engine of the chain works the record r. -/
def working (c : ChainId) (r : Taken) (s : State) : State :=
  withChain c { s.chain c with taken := some { r with stage := .working } } s

theorem setWorking_eq_working {c : ChainId} {r : Taken} {s : State} (htaken : (s.chain c).taken = some r) :
    setWorking c s = working c r s := by
  have h : ({ s.chain c with taken := (s.chain c).taken.map fun t => { t with stage := .working } } : Chain)
      = { s.chain c with taken := some { r with stage := .working } } := by rw [htaken]; rfl
  exact congrArg (withChain c · s) h

section
variable {s : State} {r : Taken}

theorem endRecord_handed {c : ChainId} {k : Kind} (hcalm : calm s) (hhanded : justHanded c k r s) (o : RecordOutcome)
    (why : Reason) (results : List (Nat × List Byte)) : endRecord c o why results s = ending c r o why results s := by
  obtain ⟨htaken, -, hstage, -⟩ := hhanded
  exact endRecord_eq_ending hcalm.active htaken (by simp [hstage]) o why results

/-- A bad field ends the record; the unstated result fields take a free value (log entry 5). -/
theorem failBadField_handed {c : ChainId} {k : Kind} (hcalm : calm s) (hhanded : justHanded c k r s)
    (results : List (Nat × List Byte)) :
    failBadField c results s = rested (bumpFree (ending c r .failed .badField results s)) := by
  have hcalm' : calm (bumpFree (ending c r .failed .badField results s)) := hcalm
  rw [failBadField, endRecord_handed hcalm hhanded, settle_calm _ hcalm']

/-- A record that ends in its engine's row has ended so when the row is over. -/
theorem completes_ending {i : Instr} {c : ChainId} {o : RecordOutcome} {why : Reason} {results : List (Nat × List Byte)}
    (h : exec i s = .next (rested (ending c r o why results s))) :
    Completes i s fun t => EndsWith c r o why s t ∧ keptBut c s t ∧ keptEngines s t :=
  ⟨_, h, (ending_endsWith ..).rested, keptBut_rested (ending_keptBut ..), keptEngines_rested ⟨rfl, rfl, rfl, rfl, rfl⟩⟩

/-- The free value's counter is no field that such a row is said to keep. -/
theorem completes_ending_bumped {i : Instr} {c : ChainId} {o : RecordOutcome} {why : Reason}
    {results : List (Nat × List Byte)} (h : exec i s = .next (rested (bumpFree (ending c r o why results s)))) :
    Completes i s fun t => EndsWith c r o why s t ∧ keptBut c s t ∧ keptEngines s t := by
  have hkept : keptBut c s (bumpFree (ending c r o why results s)) := ending_keptBut c r o why results s
  have hends : EndsWith c r o why s (bumpFree (ending c r o why results s)) := ending_endsWith c r o why results s
  exact ⟨_, h, hends.rested, keptBut_rested hkept, keptEngines_rested ⟨rfl, rfl, rfl, rfl, rfl⟩⟩

/-! ## What refuses a record (R96, R98) -/

theorem linkRefusal_of_down (h : s.modem.linkUp = false) : linkRefusal s = some .linkDown := by simp [linkRefusal, h]

theorem linkRefusal_of_fault (h : s.modem.linkUp = true) (hcode : s.modem.code = 15) :
    linkRefusal s = some .modemFault := by simp [linkRefusal, h, hcode]

theorem linkRefusal_of_up (h : s.modem.linkUp = true) (hcode : s.modem.code ≠ 15) : linkRefusal s = none := by
  rw [linkRefusal, if_neg (by simp [h]), if_neg hcode]

/-! ## Field checks (R102, R105, R106, R109) -/

/-- A buffer of n bytes from address a that is a multiple of 4 and in the DRAM. -/
theorem bufferOk_iff (a n installed : Nat) :
    (a % 4 = 0 ∧ 1 ≤ n ∧ a + n - 1 < installed) ↔ (a % 4 = 0 ∧ 1 ≤ n ∧ a + n ≤ installed) := by omega

theorem receiveRequest_good {installed : Nat} {body : List Byte}
    (h : addrField body 0 % 4 = 0 ∧ 1 ≤ field body 4 2 ∧ addrField body 0 + field body 4 2 ≤ installed) :
    receiveRequest installed body
      = some { addr := addrField body 0, length := field body 4 2, count := 0, outcome := none } :=
  if_pos ((bufferOk_iff ..).2 h)

theorem receiveRequest_bad {installed : Nat} {body : List Byte}
    (h : ¬ (addrField body 0 % 4 = 0 ∧ 1 ≤ field body 4 2 ∧ addrField body 0 + field body 4 2 ≤ installed)) :
    receiveRequest installed body = none :=
  if_neg (mt (bufferOk_iff ..).1 h)

/-- A SEND BLOCK's fields are in range (R102). -/
def blockFieldsOk (installed : Nat) (body : List Byte) : Prop :=
  field body 0 1 ≤ 15 ∧ addrField body 4 % 4 = 0 ∧ 1 ≤ field body 8 2 ∧ addrField body 4 + field body 8 2 ≤ installed

/-- The SEND BLOCK that a body asks for, nothing of it fetched. -/
def blockOf (body : List Byte) : SendBlockJob :=
  { mode := BitVec.ofNat 4 (field body 0 1), addr := addrField body 4, count := field body 8 2
    last := (field body 1 1).testBit 0, fillOk := (field body 1 1).testBit 1
    fillByte := BitVec.ofNat 8 (field body 2 1), fetched := 0, offered := 0, sent := 0 }

theorem blockRequest_good {installed : Nat} {body : List Byte} (h : blockFieldsOk installed body) :
    blockRequest installed body = some (blockOf body) := by
  obtain ⟨hmode, hbuffer⟩ := h
  exact if_pos ⟨hmode, (bufferOk_iff ..).2 hbuffer⟩

theorem blockRequest_bad {installed : Nat} {body : List Byte} (h : ¬ blockFieldsOk installed body) :
    blockRequest installed body = none := by
  refine if_neg fun ⟨hmode, hbuffer⟩ => h ⟨hmode, (bufferOk_iff ..).1 hbuffer⟩

theorem modeRequest_good {body : List Byte} (h : field body 0 1 ≤ 15) :
    modeRequest body = some (BitVec.ofNat 4 (field body 0 1)) := if_pos h

theorem modeRequest_bad {body : List Byte} (h : 15 < field body 0 1) : modeRequest body = none :=
  if_neg (Nat.not_le.2 h)

/-- On codes the mask test of R106 is the one over 4 bits. -/
theorem code_and_eq_iff {m v : Nat} (hm : m ≤ 15) (hv : v ≤ 15) :
    v &&& m = v ↔ BitVec.ofNat 4 v &&& BitVec.ofNat 4 m = BitVec.ofNat 4 v := by
  have hm' : m % 2 ^ 4 = m := Nat.mod_eq_of_lt (by omega)
  have hv' : v % 2 ^ 4 = v := Nat.mod_eq_of_lt (by omega)
  rw [← BitVec.toNat_inj, BitVec.toNat_and, BitVec.toNat_ofNat, BitVec.toNat_ofNat, hm', hv']

/-- A CONDITION WAIT's mask and value are codes, the value within the mask (R106). -/
def conditionFieldsOk (body : List Byte) : Prop :=
  field body 0 1 ≤ 15 ∧ field body 1 1 ≤ 15
    ∧ BitVec.ofNat 4 (field body 1 1) &&& BitVec.ofNat 4 (field body 0 1) = BitVec.ofNat 4 (field body 1 1)

theorem conditionFieldsOk_iff (body : List Byte) :
    (field body 0 1 ≤ 15 ∧ field body 1 1 ≤ 15 ∧ field body 1 1 &&& field body 0 1 = field body 1 1)
      ↔ conditionFieldsOk body :=
  and_congr_right fun hm => and_congr_right fun hv => code_and_eq_iff hm hv

theorem conditionRequest_good {body : List Byte} (h : conditionFieldsOk body) :
    conditionRequest body
      = some (BitVec.ofNat 4 (field body 0 1), BitVec.ofNat 4 (field body 1 1), field body 2 2) :=
  if_pos ((conditionFieldsOk_iff body).2 h)

theorem conditionRequest_bad {body : List Byte} (h : ¬ conditionFieldsOk body) : conditionRequest body = none :=
  if_neg (mt (conditionFieldsOk_iff body).1 h)

/-! ## RECEIVE BUFFER (R109) -/

theorem settle_rejectReceive (hcalm : calm s) (hhanded : justHanded .receive .receiveBuffer r s) (why : Reason) :
    settle (rejectReceive why s) = rested (ending .receive r .failed why [(18, [0]), (8, [0, 0, 0, 0])] s) := by
  have hcalm' : calm (ending .receive r .failed why [(18, [0]), (8, [0, 0, 0, 0])] s) := hcalm
  rw [rejectReceive, endRecord_handed hcalm hhanded]
  exact settle_calm _ hcalm'

/-- Settles O42: the field check, then the link, then code 15 decide what the buffer's row is. -/
theorem receiveBufferActs : Obligations.ReceiveBufferActs := by
  intro s r hcalm hhanded
  have hrec := handed_of_justHanded hhanded
  have hexec : exec .receiveBuffer s = .next (actReceiveBuffer s) := rfl
  refine ⟨?_, ?_, ?_, ?_⟩
  · intro hbad
    rw [hexec]
    simp only [actReceiveBuffer, hrec, receiveRequest_bad hbad, settle_rejectReceive hcalm hhanded]
  · intro hgood hdown
    rw [hexec]
    simp only [actReceiveBuffer, hrec, receiveRequest_good hgood, linkRefusal_of_down hdown,
      settle_rejectReceive hcalm hhanded]
  · intro hgood hup hfault
    rw [hexec]
    simp only [actReceiveBuffer, hrec, receiveRequest_good hgood, linkRefusal_of_fault hup hfault,
      settle_rejectReceive hcalm hhanded]
  · intro hgood hup hcode
    obtain ⟨htaken, -⟩ := hhanded
    have hcalm' : calm (working .receive r s) := hcalm
    rw [hexec]
    simp only [actReceiveBuffer, hrec, receiveRequest_good hgood, linkRefusal_of_up hup hcode,
      setWorking_eq_working htaken]
    exact congrArg _ (settle_calm _ hcalm')

/-! ## SEND BLOCK (R102) -/

/-- The first burst of a block that nothing of has been fetched (R102, R136). -/
def firstBurst (j : SendBlockJob) (s : State) : Nat :=
  min (min 16 j.count) (s.dram.installed / 1024 - j.addr % (s.dram.installed / 1024))

/-- The state in which a block has begun: the underrun over, its first bytes asked for (R102, R103). -/
def blockBegun (j : SendBlockJob) (s : State) : State :=
  { s with
    dram := { s.dram with modem := s.dram.modem ++
      [{ tag := .sendFetch, addr := j.addr, data := .read (firstBurst j s) [], note := none }] }
    modem := { s.modem with
      underrun := false, store := [], fetching := firstBurst j s
      sendWork := some (.block { j with fetched := firstBurst j s }) } }

theorem askRead_modem_of_active (h : s.power.state = .active) (tag : Tag) (a n : Nat) :
    askRead .modem tag a n s
      = { s with dram := { s.dram with modem := s.dram.modem ++ [{ tag := tag, addr := a, data := .read n [], note := none }] } } := by
  simp [askRead, ask, requestsHeld, h, State.updDram, Dram.setQueue, Dram.queue]

/-- The length of a block's next burst (R102, R136). -/
def nextBurst (j : SendBlockJob) (s : State) : Nat :=
  min (min (16 - s.modem.store.length) (j.count - j.fetched))
    (s.dram.installed / 1024 - (j.addr + j.fetched) % (s.dram.installed / 1024))

theorem fetchSend_of_no_block (h : ∀ j, s.modem.sendWork ≠ some (.block j)) : fetchSend s = s := by
  unfold fetchSend
  split
  next j hwork => exact absurd hwork (h j)
  next => rfl

/-- A burst in progress, or none left to make, lets a block wait. -/
theorem fetchSend_waits {j : SendBlockJob} (hwork : s.modem.sendWork = some (.block j))
    (h : 0 < s.modem.fetching ∨ nextBurst j s = 0) : fetchSend s = s := by
  have hnot : ¬ (s.modem.fetching = 0 ∧ 0 < nextBurst j s) := by omega
  simp only [fetchSend, hwork]
  exact if_neg hnot

theorem fetchSend_asks {j : SendBlockJob} (hactive : s.power.state = .active) (hwork : s.modem.sendWork = some (.block j))
    (hidle : s.modem.fetching = 0) (hroom : 0 < nextBurst j s) :
    fetchSend s = { s with
      dram := { s.dram with modem := s.dram.modem ++
        [{ tag := .sendFetch, addr := j.addr + j.fetched, data := .read (nextBurst j s) [], note := none }] }
      modem := { s.modem with
        fetching := nextBurst j s, sendWork := some (.block { j with fetched := j.fetched + nextBurst j s }) } } := by
  simp only [fetchSend, hwork]
  rw [if_pos ⟨hidle, hroom⟩, askRead_modem_of_active hactive]
  rfl

theorem startBlock_eq_begun {j : SendBlockJob} (hactive : s.power.state = .active) (hsize : 1024 ≤ s.dram.installed)
    (hcount : 1 ≤ j.count) (hnone : j.fetched = 0) : startBlock j s = blockBegun j s := by
  have hpage : 0 < s.dram.installed / 1024 := Nat.div_pos hsize (by decide)
  have hlt : j.addr % (s.dram.installed / 1024) < s.dram.installed / 1024 := Nat.mod_lt _ hpage
  have hpos : 0 < firstBurst j s := by unfold firstBurst; omega
  have hburst : nextBurst j (s.updModem fun m =>
      { m with underrun := false, store := [], fetching := 0, sendWork := some (.block j) }) = firstBurst j s := by
    unfold nextBurst
    rw [hnone]
    rfl
  rw [startBlock, fetchSend_asks (s := s.updModem _) hactive rfl rfl (hburst ▸ hpos), hburst, hnone, Nat.zero_add]
  rfl

theorem exec_sendBlock_bad (hcalm : calm s) (hhanded : justHanded .send .sendBlock r s)
    (hbad : ¬ blockFieldsOk s.dram.installed r.body) :
    exec .sendBlock s = .next (rested (bumpFree (ending .send r .failed .badField blockResult s))) := by
  have hexec : exec .sendBlock s = .next (actSendBlock s) := rfl
  rw [hexec]
  simp only [actSendBlock, handed_of_justHanded hhanded, blockRequest_bad hbad, failBadField_handed hcalm hhanded]

theorem exec_sendBlock_refused {why : Reason} (hcalm : calm s) (hhanded : justHanded .send .sendBlock r s)
    (hgood : blockFieldsOk s.dram.installed r.body) (hwhy : linkRefusal s = some why) :
    exec .sendBlock s = .next (rested (ending .send r .failed why blockResult s)) := by
  have hexec : exec .sendBlock s = .next (actSendBlock s) := rfl
  have hcalm' : calm (ending .send r .failed why blockResult s) := hcalm
  rw [hexec]
  simp only [actSendBlock, handed_of_justHanded hhanded, blockRequest_good hgood, hwhy, rejectSend,
    endRecord_handed hcalm hhanded, settle_calm _ hcalm']

theorem exec_sendBlock_begins (hcalm : calm s) (hhanded : justHanded .send .sendBlock r s)
    (hsize : 1024 ≤ s.dram.installed) (hgood : blockFieldsOk s.dram.installed r.body) (hnone : linkRefusal s = none) :
    exec .sendBlock s = .next (rested (blockBegun (blockOf r.body) (working .send r s))) := by
  have hexec : exec .sendBlock s = .next (actSendBlock s) := rfl
  have hcalm' : calm (blockBegun (blockOf r.body) (working .send r s)) := hcalm
  have hrec := handed_of_justHanded hhanded
  obtain ⟨htaken, -⟩ := hhanded
  have hcount : 1 ≤ (blockOf r.body).count := by
    obtain ⟨-, -, hcount, -⟩ := hgood
    exact hcount
  have hstart : startBlock (blockOf r.body) (working .send r s) = blockBegun (blockOf r.body) (working .send r s) :=
    startBlock_eq_begun (s := working .send r s) hcalm.active hsize hcount rfl
  rw [hexec]
  simp only [actSendBlock, hrec, blockRequest_good hgood, hnone, setWorking_eq_working htaken, hstart,
    settle_calm _ hcalm']

/-! ## MODE CHANGE (R105) -/

theorem exec_modeChange_bad (hcalm : calm s) (hhanded : justHanded .send .modeChange r s) (hbad : 15 < field r.body 0 1) :
    exec .modeChange s = .next (rested (bumpFree (ending .send r .failed .badField (modeResult (unstated s)) s))) := by
  have hexec : exec .modeChange s = .next (actModeChange s) := rfl
  rw [hexec]
  simp only [actModeChange, handed_of_justHanded hhanded, modeRequest_bad hbad, failBadField_handed hcalm hhanded]

theorem exec_modeChange_refused {why : Reason} (hcalm : calm s) (hhanded : justHanded .send .modeChange r s)
    (hgood : field r.body 0 1 ≤ 15) (hwhy : linkRefusal s = some why) :
    exec .modeChange s = .next (rested (bumpFree (ending .send r .failed why (modeResult (unstated s)) s))) := by
  have hexec : exec .modeChange s = .next (actModeChange s) := rfl
  have hcalm' : calm (bumpFree (ending .send r .failed why (modeResult (unstated s)) s)) := hcalm
  rw [hexec]
  simp only [actModeChange, handed_of_justHanded hhanded, modeRequest_good hgood, hwhy, rejectSend,
    endRecord_handed hcalm hhanded, settle_calm _ hcalm']

theorem exec_modeChange_begins (hcalm : calm s) (hhanded : justHanded .send .modeChange r s)
    (hgood : field r.body 0 1 ≤ 15) (hnone : linkRefusal s = none) :
    exec .modeChange s = .next (rested (startMode (BitVec.ofNat 4 (field r.body 0 1)) (working .send r s))) := by
  have hexec : exec .modeChange s = .next (actModeChange s) := rfl
  have hcalm' : calm (startMode (BitVec.ofNat 4 (field r.body 0 1)) (working .send r s)) := hcalm
  have hrec := handed_of_justHanded hhanded
  obtain ⟨htaken, -⟩ := hhanded
  rw [hexec]
  simp only [actModeChange, hrec, modeRequest_good hgood, hnone, setWorking_eq_working htaken, settle_calm _ hcalm']

/-! ## CONDITION WAIT (R106) -/

theorem exec_conditionWait_bad (hcalm : calm s) (hhanded : justHanded .send .conditionWait r s)
    (hbad : ¬ conditionFieldsOk r.body) :
    exec .conditionWait s = .next (rested (bumpFree (ending .send r .failed .badField (waitResult s) s))) := by
  have hexec : exec .conditionWait s = .next (actConditionWait s) := rfl
  rw [hexec]
  simp only [actConditionWait, handed_of_justHanded hhanded, conditionRequest_bad hbad, failBadField_handed hcalm hhanded]

theorem exec_conditionWait_down (hcalm : calm s) (hhanded : justHanded .send .conditionWait r s)
    (hgood : conditionFieldsOk r.body) (hdown : s.modem.linkUp = false) :
    exec .conditionWait s = .next (rested (ending .send r .failed .linkDown (waitResult s) s)) := by
  have hexec : exec .conditionWait s = .next (actConditionWait s) := rfl
  have hcalm' : calm (ending .send r .failed .linkDown (waitResult s) s) := hcalm
  rw [hexec]
  simp only [actConditionWait, handed_of_justHanded hhanded, conditionRequest_good hgood, hdown, rejectSend,
    endRecord_handed hcalm hhanded, settle_calm _ hcalm']
  rfl

/-- On an UP link the wait begins, or is over at once. -/
theorem exec_conditionWait_up (hhanded : justHanded .send .conditionWait r s)
    (hgood : conditionFieldsOk r.body) (hup : s.modem.linkUp = true) :
    exec .conditionWait s = .next (settle (startWait (BitVec.ofNat 4 (field r.body 0 1))
      (BitVec.ofNat 4 (field r.body 1 1)) (field r.body 2 2) (working .send r s))) := by
  have hexec : exec .conditionWait s = .next (actConditionWait s) := rfl
  have hrec := handed_of_justHanded hhanded
  obtain ⟨htaken, -⟩ := hhanded
  rw [hexec]
  simp only [actConditionWait, hrec, conditionRequest_good hgood, hup, setWorking_eq_working htaken]
  rfl

theorem startWait_match {m v : BitVec 4} {ms : Nat} (hactive : s.power.state = .active)
    (hmatch : s.modem.code &&& m = v) :
    startWait m v ms (working .send r s) = ending .send r .done .none (waitResult s) s := by
  have hmatches : conditionMatches m v (working .send r s).modem.code = true := decide_eq_true hmatch
  have htaken : ((working .send r s).chain .send).taken = some { r with stage := .working } := rfl
  rw [startWait, hmatches, if_pos rfl, endRecord_eq_ending (s := working .send r s) hactive htaken (by simp)]
  rfl

theorem startWait_miss {m v : BitVec 4} {ms : Nat} (hmiss : s.modem.code &&& m ≠ v) :
    startWait m v ms s = { s with modem := { s.modem with
      sendWork := some (.wait m v s.now ms), waitTimer := if ms = 0 then none else some (ms * 1000) } } := by
  have hmisses : conditionMatches m v s.modem.code = false := decide_eq_false hmiss
  rw [startWait, hmisses]
  rfl

end

/-- Settles O41: each kind's field check, then the link and code 15, decide its row; a CONDITION WAIT looks at the link alone. -/
theorem sendRecordsAct : Obligations.SendRecordsAct := by
  refine ⟨?_, ?_, ?_, ?_⟩
  · intro s r hcalm hhanded hsize
    refine ⟨?_, ?_, ?_, ?_⟩
    · intro hbad
      exact completes_ending_bumped (exec_sendBlock_bad hcalm hhanded hbad)
    · intro hgood hdown
      exact completes_ending (exec_sendBlock_refused hcalm hhanded hgood (linkRefusal_of_down hdown))
    · intro hgood hup hfault
      exact completes_ending (exec_sendBlock_refused hcalm hhanded hgood (linkRefusal_of_fault hup hfault))
    · intro hgood hup hcode
      exact exec_sendBlock_begins hcalm hhanded hsize hgood (linkRefusal_of_up hup hcode)
  · intro s r hcalm hhanded hbad
    exact completes_ending_bumped (exec_modeChange_bad hcalm hhanded hbad)
  · intro s r hcalm hhanded hgood
    refine ⟨?_, ?_, ?_⟩
    · intro hdown
      exact completes_ending_bumped (exec_modeChange_refused hcalm hhanded hgood (linkRefusal_of_down hdown))
    · intro hup hfault
      exact completes_ending_bumped (exec_modeChange_refused hcalm hhanded hgood (linkRefusal_of_fault hup hfault))
    · intro hup hcode
      exact exec_modeChange_begins hcalm hhanded hgood (linkRefusal_of_up hup hcode)
  · intro s r hcalm hhanded
    refine ⟨?_, ?_, ?_, ?_⟩
    · intro hbad
      exact exec_conditionWait_bad hcalm hhanded hbad
    · intro hgood hdown
      exact exec_conditionWait_down hcalm hhanded hgood hdown
    · intro hgood hup hmatch
      have hcalm' : calm (ending .send r .done .none (waitResult s) s) := hcalm
      rw [exec_conditionWait_up hhanded hgood hup, startWait_match hcalm.active hmatch, settle_calm _ hcalm']
      rfl
    · intro hgood hup hmiss
      have hcalm' : calm (working .send r s) := hcalm
      rw [exec_conditionWait_up hhanded hgood hup, startWait_miss (s := working .send r s) hmiss]
      exact congrArg _ (settle_calm _ hcalm')

end Sys2Proof.Machine

/-! SUPPORT. Transfers completed by the step that reports it (log entry 8), and the end of an engine reset (R127). -/

namespace Sys2Proof.Machine

/-! ## Transfers completed by the step that reports it -/

section
variable {s : State} {r : Requester} {tag : Tag} {addr : Nat} {bytes : List Byte} {rest : List Xfer}

theorem deadDone_of_noneDead (h : noneDead r s) : deadDone r s = s := by
  unfold deadDone
  split
  next r' a b hgrant =>
    have hne : r' ≠ r := by simpa [noneDead, hgrant] using h
    exact if_neg hne
  next => rfl

theorem runHead_of_noneDead (h : noneDead r s) (x : Xfer) : runHead r x rest s = runXfer x (served r rest s) := by
  rw [runHead, deadDone_of_noneDead h]
  rfl

/-- Bytes are read from the cells alone. -/
theorem readBytes_congr {t : State} (hcells : t.dram.cells = s.dram.cells) (hfitted : t.dram.fitted = s.dram.fitted)
    (hfree : t.freeCount = s.freeCount) : ∀ n a, readBytes t a n = readBytes s a n
  | 0, _ => rfl
  | n + 1, a => by
    rw [readBytes, readBytes, readBytes_congr hcells hfitted hfree n, readByte, readByte, hcells, hfitted, hfree]

theorem Dram.pokeAll_comm {f : Dram → Dram} (h : ∀ d a b, (f d).poke a b = f (d.poke a b)) :
    ∀ (bytes : List Byte) (d : Dram) (a : Nat), (f d).pokeAll a bytes = f (d.pokeAll a bytes)
  | [], _, _ => rfl
  | b :: rest, d, a => by rw [Dram.pokeAll, Dram.pokeAll, h, Dram.pokeAll_comm h rest]

/-- A requester's first transfer gone, as `served` has it, on DRAM alone. -/
def Dram.serve (r : Requester) (rest : List Xfer) (d : Dram) : Dram :=
  { d.setQueue r rest with grant := grantOver r d.grant, hostTookLast := false }

theorem served_eq_updDram : served r rest s = s.updDram (Dram.serve r rest) := rfl

theorem Dram.serve_poke (d : Dram) (a : Nat) (b : Byte) :
    (Dram.serve r rest d).poke a b = Dram.serve r rest (d.poke a b) := by
  have hfitted : (Dram.serve r rest d).fitted = d.fitted := by cases r <;> rfl
  unfold Dram.poke
  rw [hfitted]
  split
  · cases r <;> rfl
  · rfl

theorem writeBytes_served : writeBytes (served r rest s) addr bytes = served r rest (writeBytes s addr bytes) := by
  rw [served_eq_updDram, served_eq_updDram]
  exact congrArg (fun d => ({ s with dram := d } : State)) (Dram.pokeAll_comm Dram.serve_poke bytes s.dram addr)

theorem served_cells : (served r rest s).dram.cells = s.dram.cells := by cases r <;> rfl

theorem served_fitted : (served r rest s).dram.fitted = s.dram.fitted := by cases r <;> rfl

/-- The head of the queue, being of the tag reported, is the one transfer that completes. -/
theorem completed_head {x : Xfer} (hqueue : s.dram.queue r = x :: rest) (hdead : noneDead r s) :
    completed r x.tag (s.dram.queue r).length s
      = finishXfer (runXfer x (served r rest s)).1 (runXfer x (served r rest s)).2 := by
  have hany : ((x :: rest).any fun y => decide (y.tag = x.tag)) = true := by simp
  rw [hqueue, List.length_cons, completed, hqueue]
  simp only [hany, if_true, runHead_of_noneDead hdead]

theorem completed_lastWrite (h : lastWrite r tag addr bytes rest s) :
    completed r tag (s.dram.queue r).length s
      = finishXfer { tag := tag, addr := addr + bytes.length, data := .write [], note := none }
          (served r rest (writeBytes s addr bytes)) := by
  obtain ⟨hqueue, hdead⟩ := h
  rw [← writeBytes_served]
  exact completed_head hqueue hdead

theorem completed_lastRead (h : lastRead r tag bytes rest s) :
    ∃ a, completed r tag (s.dram.queue r).length s
      = finishXfer { tag := tag, addr := a, data := .read 0 bytes, note := none } (served r rest s) := by
  obtain ⟨a, n, got, hqueue, hfits, hbytes, hdead⟩ := h
  have hread : readBytes (served r rest s) a n = readBytes s a n := readBytes_congr served_cells served_fitted rfl n a
  have hfree : readFree (served r rest s) a n = (readBytes s a n, served r rest s) := by
    rw [readFree, served_fitted, if_pos hfits, hread]
  refine ⟨a + n, ?_⟩
  have hdone := completed_head hqueue hdead
  simp only [runXfer, hfree, ← hbytes] at hdone
  exact hdone

theorem continueSleepEntry_of_not_entering (h : s.power.state ≠ .enteringSleep) : continueSleepEntry s = s :=
  if_neg fun ⟨hentering, _⟩ => h hentering

theorem completedNow_lastWrite {t : State} (h : lastWrite r tag addr bytes rest s)
    (hfinish : finishXfer { tag := tag, addr := addr + bytes.length, data := .write [], note := none }
      (served r rest (writeBytes s addr bytes)) = t) (ht : t.power.state ≠ .enteringSleep) :
    completedNow r tag s = t := by
  rw [completedNow, completed_lastWrite h, hfinish, continueSleepEntry_of_not_entering ht]

end

@[simp] theorem rested_powerState (s : State) : (rested s).power.state = s.power.state := by
  obtain ⟨n, h⟩ := rested_eq s
  rw [h]

theorem atRest.rested_not_entering {s : State} (h : atRest s) : (rested s).power.state ≠ .enteringSleep := by
  rw [rested_powerState, h.active]
  decide

/-! ## The end of an engine reset (R127) -/

theorem powerPass_eq_rested {s : State} (h : s.power.slot = .none) : powerPass s = rested s := powerPass_unarmed s h

/-- The state in which the engine has become STOPPED: chain states, cursors and a receive hold discarded (R108, R127). -/
def stoppedFrom (s : State) : State :=
  { s with
    chains := Chains.cold, regs := { s.regs with engine := .stopped }
    modem := { s.modem with holdActive := false, holdTimer := none } }

theorem engineStopped_of_resetting {s : State} (h : s.regs.engine = .resetting) : engineStopped s = stoppedFrom s := if_pos h

theorem writeBytes_fitted (s : State) (a : Nat) (bytes : List Byte) :
    (writeBytes s a bytes).dram.fitted = s.dram.fitted := by
  have h := congrArg Dram.fitted (Dram.pokeAll_rest bytes s.dram a)
  exact h

theorem writeBytes_installed (s : State) (a : Nat) (bytes : List Byte) :
    (writeBytes s a bytes).dram.installed = s.dram.installed := by
  have h := congrArg Dram.installed (Dram.pokeAll_rest bytes s.dram a)
  exact h

/-- Settles O21: the write of STOPPED lands, and its completion stops the engine in the same event. -/
theorem engineResetCompletes : Obligations.EngineResetCompletes := by
  intro s addr rest hresetting hslot hstate hwrite
  have hstop : engineStopped (served .chain rest (writeBytes s addr [0]))
      = stoppedFrom (served .chain rest (writeBytes s addr [0])) := engineStopped_of_resetting hresetting
  have hfinish : completedNow .chain .stopped s
      = rested (stoppedFrom (served .chain rest (writeBytes s addr [0]))) := by
    refine completedNow_lastWrite hwrite ?_ ?_
    · rw [← hstop]
      refine powerPass_eq_rested ?_
      rw [raiseIf, hstop]
      exact hslot
    · rw [rested_powerState]
      exact hstate
  obtain ⟨n, hrested⟩ := rested_eq (stoppedFrom (served .chain rest (writeBytes s addr [0])))
  refine ⟨_, congrArg Host.Outcome.next (hfinish.trans hrested), rfl, rfl, rfl, ?_, ?_, rfl, rfl, rfl, rfl, rfl, rfl, rfl⟩
  · exact writeBytes_fitted ..
  · exact writeBytes_installed ..

end Sys2Proof.Machine

/-! SUPPORT. GO-SLEEP (R135, R145) and the sleep entry that runs to its end (R150, R152). -/

namespace Sys2Proof.Machine

section
variable {s : State}

/-- The host runs in ACTIVE and DOZE alone (R142). -/
theorem awake_of_hostFree (h : hostFree s) : s.power.state = .active ∨ s.power.state = .doze := by
  obtain ⟨hruns, -⟩ := h
  simp only [hostRuns, nextClock, Bool.and_eq_true] at hruns
  obtain ⟨-, hclock⟩ := hruns
  cases hstate : s.power.state <;> simp [hstate] at hclock ⊢

/-- The state with SLEEP armed by a PWRCTL write with this wake mask. -/
def sleepArmed (m : BitVec 5) (s : State) : State :=
  { s with bus := writtenBus, regs := { s.regs with wakeMask := m }, power := { s.power with slot := .sleep } }

theorem exec_goSleep {m : BitVec 5} (h : hostFree s) : exec (.goSleep m) s = .next (powerPass (sleepArmed m s)) := by
  have hexec : exec (.goSleep m) s = .next (goSleepNow (setMask m (hostWrites s))) :=
    congrArg Host.Outcome.next (if_pos h.1)
  rw [hexec, hostWrites_of_free h]
  rfl

/-- An armed SLEEP whose condition does not hold waits. -/
theorem powerPass_sleep_waits (hslot : s.power.slot = .sleep) (hidle : idleForSleep s = false) :
    powerPass s = rested s := by
  have hidle' : idleForSleep (s.updPower fun p => { p with idleTimer := 0 }) = false := hidle
  have hslot' : (s.updPower fun p => { p with idleTimer := 0 }).power.slot = .sleep := hslot
  have hnot {p : Prop} : ¬ (false = true ∧ p) := by simp
  cases hquiet : quiet s
  · simp only [powerPass, rested, hquiet, Bool.false_eq_true, if_false]
    split
    next hnone => cases hslot'.symm.trans hnone
    next hdoze => cases hslot'.symm.trans hdoze
    next => rw [hidle', if_neg hnot]; rfl
  · simp only [powerPass, rested, hquiet, if_true, hslot, hidle, if_neg hnot]

theorem quiet_of_idleForSleep (h : idleForSleep s = true) : quiet s = true := by
  simp only [idleForSleep, Bool.and_eq_true] at h
  obtain ⟨⟨hquiet, -⟩, -⟩ := h
  exact hquiet

theorem powerPass_sleep_enters (hslot : s.power.slot = .sleep) (hidle : idleForSleep s = true)
    (hawake : s.power.state = .active ∨ s.power.state = .doze) : powerPass s = beginSleepEntry s := by
  simp only [powerPass, quiet_of_idleForSleep hidle, if_true, hslot, hidle, hawake, and_self]

/-- The state in which a sleep entry begins (R150): the request is gone, no wake event is held. -/
def entering (s : State) : State :=
  { s with power := { s.power with state := .enteringSleep, slot := .none, idleTimer := 0, pendingCauses := 0 } }

/-- Step 2 of the entry has nothing to serve where nothing waited before it: with no refresh owed, none is held over. -/
theorem drained_entering {m : BitVec 5} (hawake : s.power.state = .active ∨ s.power.state = .doze)
    (h : drained s = true) : drained (entering (sleepArmed m s)) = true := by
  have hheld : requestsHeld s = false := by rcases hawake with hstate | hstate <;> simp [requestsHeld, hstate]
  have hheld' : requestsHeld (entering (sleepArmed m s)) = true := rfl
  simp only [drained, refreshWaits, hheld, hheld', Bool.and_eq_true, Bool.not_eq_true', decide_eq_false_iff_not,
    Bool.false_eq_true, if_true, if_false, Nat.not_lt] at h ⊢
  obtain ⟨⟨⟨-, hgrant⟩, hengines⟩, howed⟩ := h
  exact ⟨⟨⟨rfl, hgrant⟩, hengines⟩, Nat.le_trans howed (Nat.zero_le _)⟩

/-- The wake timer at the entry: the periods set, if TIMER is in the mask and they are above 0 (R152). -/
def entryTimer (s : State) : Option Nat :=
  if s.regs.wakeMask &&& wakeTimerBit ≠ 0 ∧ 0 < s.power.wakeAfter then some (s.power.wakeAfter * 32768) else none

/-- The state in which an entry has ended with no wake event held: SLEEP (R139, R150, R152). -/
def sleepEntered (s : State) : State :=
  { changeBase 525 s with
    dram := { s.dram with
      refreshOwed := 0, refreshHeld := 0, refreshTimer := s.dram.refreshInterval, selfRefresh := true }
    modem := { (changeBase 525 s).modem with holdActive := false, holdTimer := none }
    power := { s.power with state := .sleep, wakeTimer := entryTimer s } }

theorem beginSleepEntry_of_drained (h : drained (entering s) = true) :
    beginSleepEntry s = sleepEntered (entering s) := by
  have hbegin : beginSleepEntry s = finishSleepEntry (entering s) := if_pos ⟨rfl, h⟩
  have hfinish : finishSleepEntry (entering s) = sleepEntered (entering s) := rfl
  rw [hbegin, hfinish]

theorem wakeTimerBit_iff (m : BitVec 5) : m &&& wakeTimerBit ≠ 0 ↔ m.getLsbD 4 = true := by
  revert m
  decide

end

/-- Settles O17: armed, SLEEP waits for idle-for-sleep, and with it and nothing left to grant the entry runs to its end. -/
theorem goSleepActs : Obligations.GoSleepActs := by
  intro s m hfree
  have hexec := exec_goSleep (m := m) hfree
  have hawake := awake_of_hostFree hfree
  refine ⟨?_, ?_⟩
  · intro hidle
    have hidle' : idleForSleep (sleepArmed m s) = false := hidle
    rw [powerPass_sleep_waits rfl hidle'] at hexec
    obtain ⟨n, hn⟩ := rested_eq (sleepArmed m s)
    rw [hn] at hexec
    exact ⟨_, hexec, rfl, rfl, ⟨rfl, rfl, rfl⟩, rfl, rfl, rfl, rfl, rfl, rfl, rfl⟩
  · intro hidle hdrained
    have hidle' : idleForSleep (sleepArmed m s) = true := hidle
    have hentered := drained_entering (m := m) hawake hdrained
    rw [powerPass_sleep_enters rfl hidle' hawake, beginSleepEntry_of_drained hentered] at hexec
    refine ⟨_, hexec, rfl, rfl, rfl, rfl, rfl, ⟨rfl, rfl, rfl⟩, ?_, rfl, rfl, rfl, rfl, rfl, rfl, rfl, rfl⟩
    simp only [← wakeTimerBit_iff]
    rfl

end Sys2Proof.Machine

/-! SUPPORT. The link unit's transfers and timers (R102, R106 to R109). -/

namespace Sys2Proof.Machine

/-! ## Posts while the engine is RUNNING and the part ACTIVE (R141) -/

section
variable {s : State}

theorem post_of_running (hactive : s.power.state = .active) (hrun : s.regs.engine = .running) (offset : Nat)
    (bytes : List Byte) (note : Option Note) : post offset bytes note s = asking [areaPost s offset bytes note] s := by
  simp only [post, posting, hrun, ask, requestsHeld, hactive]
  rfl

theorem postFault_of_running (hactive : s.power.state = .active) (hrun : s.regs.engine = .running) (code : FaultCode) :
    postFault code s = asking [areaPost s 161 (be8 code.code) (some .fault)] s := post_of_running hactive hrun ..

/-! ## Completions and expiries -/

/-- What a completed fetch brings, the whole block being asked for. -/
theorem sendArrived_last {j : SendBlockJob} (hwork : s.modem.sendWork = some (.block j)) (hall : j.fetched = j.count)
    (bytes : List Byte) :
    sendArrived bytes s = s.updModem fun m => { m with store := m.store ++ bytes, fetching := 0 } := by
  refine fetchSend_waits (s := s.updModem _) hwork (.inr ?_)
  rw [nextBurst, hall, Nat.sub_self, Nat.min_zero, Nat.zero_min]

theorem exec_sendStoreFetchComplete {j : SendBlockJob} {bytes : List Byte} {rest : List Xfer} (hrest : atRest s)
    (hwork : s.modem.sendWork = some (.block j)) (hall : j.fetched = j.count)
    (hread : lastRead .modem .sendFetch bytes rest s) :
    exec .sendStoreFetchComplete s = .next (rested ((served .modem rest s).updModem fun m =>
      { m with store := m.store ++ bytes, fetching := 0 })) := by
  obtain ⟨a, hdone⟩ := completed_lastRead hread
  have hexec : exec .sendStoreFetchComplete s = .next (completedNow .modem .sendFetch s) := rfl
  have hrest' : atRest ((served .modem rest s).updModem fun m => { m with store := m.store ++ bytes, fetching := 0 }) :=
    hrest
  have harrived := sendArrived_last (s := served .modem rest s) hwork hall bytes
  have hfinish : finishXfer { tag := .sendFetch, addr := a, data := .read 0 bytes, note := none } (served .modem rest s)
      = settle (sendArrived bytes (served .modem rest s)) := rfl
  rw [hexec, completedNow, hdone, hfinish, harrived, settle_atRest _ hrest',
    continueSleepEntry_of_not_entering hrest'.rested_not_entering]

/-- A receive write at its end, in a state in which every unit waits. -/
theorem exec_receiveWriteComplete {addr : Nat} {bytes : List Byte} {rest : List Xfer} {t : State}
    (hwrite : lastWrite .modem .receive addr bytes rest s)
    (hdone : receiveDone (served .modem rest (writeBytes s addr bytes)) = t) (hrest : atRest t) :
    exec .receiveWriteComplete s = .next (rested t) := by
  have hexec : exec .receiveWriteComplete s = .next (completedNow .modem .receive s) := rfl
  have hfinish : finishXfer { tag := .receive, addr := addr + bytes.length, data := .write [], note := none }
      (served .modem rest (writeBytes s addr bytes)) = rested t := by
    rw [← settle_atRest t hrest, ← hdone]
    rfl
  rw [hexec, completedNow_lastWrite hwrite hfinish hrest.rested_not_entering]

theorem receiveDone_goes_on {j : ReceiveJob} {b : Byte} (hwork : s.modem.receiveWork = some j)
    (hopen : j.outcome = none) (hlatch : s.modem.latch = some (b, false)) (hroom : j.count < j.length) :
    receiveDone s = s.updModem fun m => { m with latch := none } := by
  have hgoes : (false || decide (j.length ≤ j.count)) = false := by simpa using hroom
  simp only [receiveDone, hlatch, State.updModem_modem, hwork, hopen, hgoes, Bool.false_eq_true, if_false]

theorem receiveDone_ends {j : ReceiveJob} {b : Byte} {il : Bool} {r : Taken} (hactive : s.power.state = .active)
    (htaken : (s.chain .receive).taken = some r) (hstage : r.stage = .working) (hwork : s.modem.receiveWork = some j)
    (hopen : j.outcome = none) (hlatch : s.modem.latch = some (b, il)) (hend : il = true ∨ j.length ≤ j.count) :
    receiveDone s = ending .receive r .done .none [(18, [if il then 1 else 0]), (8, be32 j.count)]
      (s.updModem fun m => { m with latch := none, receiveWork := none }) := by
  have hends : (il || decide (j.length ≤ j.count)) = true := by simpa using hend
  have hbyte : be8 (if il then 1 else 0) = [if il then 1 else 0] := by cases il <;> rfl
  simp only [receiveDone, hlatch, State.updModem_modem, hwork, hopen, hends, if_true, endReceive, hbyte]
  rw [endRecord_eq_ending (s := s.updModem _) hactive htaken (by simp [hstage])]
  rfl

theorem exec_conditionWaitTimeout {m v : BitVec 4} {t0 ms : Nat} {r : Taken} (hrest : atRest s)
    (htimer : s.modem.waitTimer = some 0) (hwork : s.modem.sendWork = some (.wait m v t0 ms))
    (htaken : (s.chain .send).taken = some r) (hstage : r.stage = .working) :
    exec .conditionWaitTimeout s = .next (rested
      (ending .send r .failed .waitTimeout [(16, be8 s.modem.code.toNat), (8, be32 (min ms 4294967295))]
        (s.updModem fun m => { m with sendWork := none, waitTimer := none }))) := by
  have hexec : exec .conditionWaitTimeout s = .next (settle (endSendAfter .failed .waitTimeout ms s)) := by
    show execConditionWaitTimeout s = _
    simp only [execConditionWaitTimeout, htimer, hwork]
  have hrest' : atRest
      (ending .send r .failed .waitTimeout [(16, be8 s.modem.code.toNat), (8, be32 (min ms 4294967295))]
        (s.updModem fun m => { m with sendWork := none, waitTimer := none })) := hrest
  rw [hexec, ← settle_atRest _ hrest']
  simp only [endSendAfter, hwork]
  rw [endRecord_eq_ending hrest.active htaken (by simp [hstage])]
  rfl

theorem exec_receiveHoldExpiry (hactive : s.power.state = .active) (hrun : s.regs.engine = .running)
    (htimer : s.modem.holdTimer = some 0) :
    exec .receiveHoldExpiry s = .next (asking [areaPost s 161 [6] (some .fault)]
      (s.updModem fun m => { m with holdTimer := none })) := by
  have hexec : exec .receiveHoldExpiry s = .next (postFault .receiveHold (s.updModem fun m => { m with holdTimer := none })) :=
    if_pos htimer
  rw [hexec, postFault_of_running (s := s.updModem _) hactive hrun]
  rfl

theorem exec_conditionWaitTimeout_early (h : s.modem.waitTimer ≠ some 0) : exec .conditionWaitTimeout s = .next s := by
  show execConditionWaitTimeout s = _
  unfold execConditionWaitTimeout
  split
  next htimer _ => exact absurd htimer h
  next => rfl

end

/-- Settles O59: each completion is the one transfer at the head of its queue, and each expiry needs its timer at 0. -/
theorem linkTransfersAndTimers : Obligations.LinkTransfersAndTimers := by
  refine ⟨?_, ?_⟩
  · intro s hrest
    refine ⟨?_, ?_, ?_, ?_⟩
    · intro j bytes rest hwork hall hread
      exact exec_sendStoreFetchComplete hrest hwork hall hread
    · intro j b il r addr bytes rest hwork hopen hlatch hwrite htaken hstage
      refine ⟨?_, ?_⟩
      · rintro rfl hroom
        refine exec_receiveWriteComplete hwrite
          (receiveDone_goes_on (s := served .modem rest (writeBytes s addr bytes)) hwork hopen hlatch hroom) hrest
      · intro hend
        exact exec_receiveWriteComplete hwrite
          (receiveDone_ends (s := served .modem rest (writeBytes s addr bytes)) hrest.active htaken hstage hwork hopen
            hlatch hend) hrest
    · intro hrun htimer
      exact exec_receiveHoldExpiry hrest.active hrun htimer
    · intro m v t0 ms r htimer hwork htaken hstage
      exact exec_conditionWaitTimeout hrest htimer hwork htaken hstage
  · intro s
    exact ⟨fun h => if_neg h, exec_conditionWaitTimeout_early⟩

end Sys2Proof.Machine

/-! SUPPORT. Frames of the modem link (R95): what a frame sync, a report and the link timer do in ACTIVE, stage by stage. -/

namespace Sys2Proof.Machine

/-! ## What the link unit leaves alone -/

/-- Beside the modem link unit, the SEND chain, DRAM's requests and the idle timer, all is as before. -/
def keptByLink (s t : State) : Prop :=
  keptBut .send s t ∧ t.store = s.store ∧ t.motion = s.motion ∧ t.scan = s.scan ∧ t.print = s.print

theorem keptByLink_refl (s : State) : keptByLink s s :=
  ⟨⟨⟨rfl, rfl, rfl⟩, ⟨rfl, rfl, rfl⟩, rfl, fun _ _ => rfl⟩, rfl, rfl, rfl, rfl⟩

theorem keptByLink_ending (r : Taken) (o : RecordOutcome) (why : Reason) (results : List (Nat × List Byte)) (s : State) :
    keptByLink s (ending .send r o why results s) := ⟨ending_keptBut .., rfl, rfl, rfl, rfl⟩

/-- The state with the idle timer at n. -/
def idledAt (n : Nat) (s : State) : State := { s with power := { s.power with idleTimer := n } }

theorem keptByLink.idledAt {s t : State} (h : keptByLink s t) (n : Nat) : keptByLink s (idledAt n t) := by
  obtain ⟨⟨hmemory, hhost, hpower, hchains⟩, hunits⟩ := h
  refine ⟨⟨hmemory, hhost, ?_, hchains⟩, hunits⟩
  show { t.power with idleTimer := n } = { s.power with idleTimer := n }
  rw [hpower]

section
variable {s t : State}

theorem keptByLink.updModem_left {f : Modem → Modem} (h : keptByLink (s.updModem f) t) : keptByLink s t := h

theorem keptByLink.updModem_right (h : keptByLink s t) (f : Modem → Modem) : keptByLink s (t.updModem f) := h

theorem atRest.updModem (h : atRest s) (f : Modem → Modem) : atRest (s.updModem f) := h

theorem atRest.updDram (h : atRest s) (f : Dram → Dram) : atRest (s.updDram f) := h

theorem atRest.asking (h : atRest s) (xs : List Xfer) : atRest (asking xs s) := h

theorem atRest.ending (h : atRest s) (c : ChainId) (r : Taken) (o : RecordOutcome) (why : Reason)
    (results : List (Nat × List Byte)) : atRest (ending c r o why results s) := h

/-- An end is one of the chain and the CHAIN requester alone. -/
theorem EndsWith.congr {c : ChainId} {r : Taken} {o : RecordOutcome} {why : Reason} {s' t' : State}
    (h : EndsWith c r o why s t) (hs : s'.chains = s.chains) (ht : t'.chains = t.chains)
    (hchain : t'.dram.chain = t.dram.chain) : EndsWith c r o why s' t' := by
  simpa only [EndsWith, State.chain, hs, ht, hchain] using h

end

@[simp] theorem idledAt_dram (n : Nat) (s : State) : (idledAt n s).dram = s.dram := rfl

@[simp] theorem idledAt_chains (n : Nat) (s : State) : (idledAt n s).chains = s.chains := rfl

/-- What holds whatever the idle timer is holds of a state in which an event has left the units waiting. -/
theorem completes_of_rested {i : Instr} {s u : State} {P : State → Prop} (hexec : exec i s = .next (rested u))
    (h : ∀ n, P (idledAt n u)) : Completes i s P := by
  obtain ⟨n, hn⟩ := rested_eq u
  exact ⟨_, hexec, hn ▸ h n⟩

/-! ## The octets of a frame (R95) -/

/-- The control octet: mode code, OV, OL, IA, AB. -/
def controlOctet (mode : BitVec 4) (ov ol ia ab : Bool) : Byte :=
  BitVec.ofNat 8 (mode.toNat * 16 + (if ov then 1 else 0) * 8 + (if ol then 1 else 0) * 4 + (if ia then 2 else 0)
    + (if ab then 1 else 0))

theorem controlOctet_fields : ∀ (mode : BitVec 4) (ov ol ia ab : Bool),
    (controlOctet mode ov ol ia ab).extractLsb' 4 4 = mode ∧ (controlOctet mode ov ol ia ab).getLsbD 3 = ov
      ∧ (controlOctet mode ov ol ia ab).getLsbD 2 = ol ∧ (controlOctet mode ov ol ia ab).getLsbD 1 = ia
      ∧ (controlOctet mode ov ol ia ab).getLsbD 0 = ab := by decide

theorem frameOctets_offered {m : Modem} {b : SendByte} (h : m.send = .offered b) :
    frameOctets m false = (controlOctet m.mode true b.last m.acked false, b.byte) := by
  simp [frameOctets, h, controlOctet]

theorem frameOctets_aborting {m : Modem} {n : Nat} (h : m.send = .aborting n) :
    frameOctets m false = (controlOctet m.mode false false m.acked true, 0) := by
  simp [frameOctets, h, controlOctet]

theorem frameOctets_idle {m : Modem} (h : m.send = .idle) :
    frameOctets m false = (BitVec.ofNat 8 (16 * m.mode.toNat + if m.acked then 2 else 0), 0) := by
  simp [frameOctets, h, Nat.mul_comm]

/-- The report octet: condition code, IV, IL, OA. -/
def reportOctet (iv il oa : Bool) (code : BitVec 4) : Byte :=
  BitVec.ofNat 8 (16 * code.toNat + (if iv then 8 else 0) + (if il then 4 else 0) + (if oa then 2 else 0))

theorem reportOctet_fields : ∀ (iv il oa : Bool) (code : BitVec 4),
    (reportOctet iv il oa code).extractLsb' 4 4 = code ∧ (reportOctet iv il oa code).getLsbD 3 = iv
      ∧ (reportOctet iv il oa code).getLsbD 2 = il ∧ (reportOctet iv il oa code).getLsbD 1 = oa := by decide

section
variable {s : State}

/-! ## The link in ACTIVE -/

theorem linkAsleep_of_active (h : s.power.state = .active) : linkAsleep s = false := by simp only [linkAsleep, h]

theorem changesHeld_of_active (h : s.power.state = .active) : changesHeld s = false := by simp only [changesHeld, h]

theorem linkFull_of_active (h : s.power.state = .active) : linkFull s = 16000 := by simp only [linkFull, h]

theorem asking_nil (s : State) : asking [] s = s := by simp [asking]

theorem posting_of_running (hrun : s.regs.engine = .running) : posting s = true := by simp only [posting, hrun]

theorem postLink_of_running (hactive : s.power.state = .active) (hrun : s.regs.engine = .running) (up : Bool) :
    postLink up s = asking [areaPost s 163 (be8 (if up then 1 else 0)) none] (s.updModem fun m => { m with postedUp := up }) := by
  rw [postLink, if_pos (posting_of_running hrun), post_of_running hactive hrun]
  rfl

theorem postCode_of_running (hactive : s.power.state = .active) (hrun : s.regs.engine = .running) :
    postCode s = asking [areaPost s 164 (be8 s.modem.code.toNat) (some .condition)]
      (s.updModem fun m => { m with postedCode := m.code }) := by
  rw [postCode, if_pos (posting_of_running hrun), post_of_running hactive hrun]
  rfl

/-! ## Ends of SEND records in work -/

theorem noBlock_of_none_taken (h : (s.chain .send).taken = none) : noBlock s = true := by simp only [noBlock, h]

theorem noBlock_of_block {r : Taken} (h : (s.chain .send).taken = some r) (hstage : r.stage = .working)
    (hkind : r.kind = .sendBlock) : noBlock s = false := by
  simp [noBlock, h, hstage, hkind]

theorem endSend_none (h : s.modem.sendWork = none) (o : RecordOutcome) (why : Reason) : endSend o why s = s := by
  simp only [endSend, h]

theorem stopReceive_none (h : s.modem.receiveWork = none) (o : RecordOutcome) (why : Reason) : stopReceive o why s = s := by
  simp only [stopReceive, h]

/-- The block j in work has ended: its count is given, its fetches and its store are gone (R102). -/
def blockEnded (r : Taken) (o : RecordOutcome) (why : Reason) (j : SendBlockJob) (s : State) : State :=
  withdrawFrom .modem (fun t => t == Tag.sendFetch)
    (ending .send r o why [(22, be16 j.sent), resultWord j.sent]
      (s.updModem fun m => { m with store := [], fetching := 0, sendWork := none, waitTimer := none }))

theorem endSend_block_eq {r : Taken} {j : SendBlockJob} (hactive : s.power.state = .active)
    (htaken : (s.chain .send).taken = some r) (hstage : r.stage = .working) (hwork : s.modem.sendWork = some (.block j))
    (o : RecordOutcome) (why : Reason) : endSend o why s = blockEnded r o why j s := by
  rw [endSend_block hwork, endRecord_eq_ending hactive htaken (by simp [hstage])]
  rfl

@[simp] theorem blockEnded_modem (r : Taken) (o : RecordOutcome) (why : Reason) (j : SendBlockJob) (s : State) :
    (blockEnded r o why j s).modem = { s.modem with store := [], fetching := 0, sendWork := none, waitTimer := none } := rfl

theorem atRest.blockEnded (h : atRest s) (r : Taken) (o : RecordOutcome) (why : Reason) (j : SendBlockJob) :
    atRest (blockEnded r o why j s) := ((h.updModem _).ending ..).updDram _

theorem blockEnded_chain (r : Taken) (o : RecordOutcome) (why : Reason) (j : SendBlockJob) (s : State) :
    (blockEnded r o why j s).dram.chain
      = s.dram.chain ++ endXfers .send r.addr o why [(22, be16 j.sent), resultWord j.sent] :=
  withdrawFrom_modem_chain _

theorem blockEnded_endsWith (r : Taken) (o : RecordOutcome) (why : Reason) (j : SendBlockJob) (s : State) :
    EndsWith .send r o why s (blockEnded r o why j s) := by
  obtain ⟨htaken, before, after, hchain⟩ := ending_endsWith .send r o why [(22, be16 j.sent), resultWord j.sent] s
  exact ⟨htaken, before, after, (blockEnded_chain ..).trans hchain⟩

/-- The result word of an ended block is its count of bytes sent. -/
theorem blockEnded_result (r : Taken) (o : RecordOutcome) (why : Reason) (j : SendBlockJob) (s : State) :
    { tag := .result .send, addr := r.addr + 8, data := .write (be32 j.sent), note := none }
      ∈ (blockEnded r o why j s).dram.chain := by
  rw [blockEnded_chain]
  simp [endXfers, resultWord]

theorem keptByLink_blockEnded (r : Taken) (o : RecordOutcome) (why : Reason) (j : SendBlockJob) (s : State) :
    keptByLink s (blockEnded r o why j s) := by
  obtain ⟨⟨-, hhost, hpower, hchains⟩, hunits⟩ :=
    keptByLink_ending r o why [(22, be16 j.sent), resultWord j.sent] s
  have hframe : (blockEnded r o why j s).frame = _ := withdrawFrom_frame ..
  exact ⟨⟨⟨congrArg Frame.cells hframe, congrArg Frame.fitted hframe, congrArg Frame.installed hframe⟩, hhost, hpower,
    hchains⟩, hunits⟩

/-- From s to t the block j of the record r has ended, and the link unit's state has become m: the record's end is asked for, its result
word the count of bytes sent, and nothing but the link unit, the SEND chain and DRAM's requests has changed. -/
def BlockEnds (r : Taken) (o : RecordOutcome) (why : Reason) (j : SendBlockJob) (m : Modem) (s t : State) : Prop :=
  t.modem = m ∧ EndsWith .send r o why s t
    ∧ { tag := .result .send, addr := r.addr + 8, data := .write (be32 j.sent), note := none } ∈ t.dram.chain
    ∧ keptByLink s t

section
variable {r : Taken} {o : RecordOutcome} {why : Reason} {j : SendBlockJob} {m : Modem} {t : State}

theorem blockEnds_blockEnded (r : Taken) (o : RecordOutcome) (why : Reason) (j : SendBlockJob) (s : State) :
    BlockEnds r o why j { s.modem with store := [], fetching := 0, sendWork := none, waitTimer := none } s
      (blockEnded r o why j s) :=
  ⟨rfl, blockEnded_endsWith .., blockEnded_result .., keptByLink_blockEnded ..⟩

theorem BlockEnds.updModem_left {f : Modem → Modem} (h : BlockEnds r o why j m (s.updModem f) t) :
    BlockEnds r o why j m s t := h

theorem BlockEnds.asking_left {xs : List Xfer} (h : BlockEnds r o why j m (asking xs s) t) : BlockEnds r o why j m s t := h

theorem BlockEnds.updModem_right (h : BlockEnds r o why j m s t) (f : Modem → Modem) :
    BlockEnds r o why j (f m) s (t.updModem f) := by
  obtain ⟨hmodem, hrest⟩ := h
  exact ⟨congrArg f hmodem, hrest⟩

theorem BlockEnds.idledAt (h : BlockEnds r o why j m s t) (n : Nat) : BlockEnds r o why j m s (idledAt n t) := by
  obtain ⟨hmodem, hends, hresult, hkept⟩ := h
  exact ⟨hmodem, hends, hresult, hkept.idledAt n⟩

end

theorem endSend_mode {r : Taken} {c : BitVec 4} {n : Nat} {armed : Bool} (hactive : s.power.state = .active)
    (htaken : (s.chain .send).taken = some r) (hstage : r.stage = .working)
    (hwork : s.modem.sendWork = some (.mode c n armed)) (o : RecordOutcome) (why : Reason) :
    endSend o why s = ending .send r o why [resultWord c.toNat]
      (s.updModem fun m => { m with sendWork := none, waitTimer := none }) := by
  simp only [endSend, endSendAfter, hwork, SendWork.results]
  rw [endRecord_eq_ending hactive htaken (by simp [hstage])]
  rfl

/-! ## A frame sync (R95, R96, R99, R102, R104) -/

/-- The link UP, which is posted where it was DOWN (R96). -/
def raised (s : State) : State :=
  if s.modem.linkUp then s else postLink true (s.updModem fun m => { m with linkUp := true })

/-- The link timer at its full 16 ms of ticks. -/
def timerFull (s : State) : State := s.updModem fun m => { m with linkTimer := some 16000 }

/-- The frame in progress carries the octets that the link unit's state gives. -/
def octetsFormed (s : State) : State := s.updModem fun m => { m with frame := some (frameOctets m false) }

theorem octetsFormed_idle (h : s.modem.send = .idle) :
    octetsFormed s = s.updModem fun m =>
      { m with frame := some (BitVec.ofNat 8 (16 * m.mode.toNat + if m.acked then 2 else 0), 0) } := by
  rw [octetsFormed, State.updModem, frameOctets_idle h]
  rfl

theorem octetsFormed_offered {b : SendByte} (h : s.modem.send = .offered b) :
    octetsFormed s
      = s.updModem fun m => { m with frame := some (controlOctet m.mode true b.last m.acked false, b.byte) } := by
  rw [octetsFormed, State.updModem, frameOctets_offered h]
  rfl

theorem octetsFormed_aborting {n : Nat} (h : s.modem.send = .aborting n) :
    octetsFormed s = s.updModem fun m => { m with frame := some (controlOctet m.mode false false m.acked true, 0) } := by
  rw [octetsFormed, State.updModem, frameOctets_aborting h]
  rfl

theorem raised_of_up (h : s.modem.linkUp = true) : raised s = s := if_pos h

theorem raised_of_down (hactive : s.power.state = .active) (hrun : s.regs.engine = .running) (h : s.modem.linkUp = false) :
    raised s = asking [areaPost s 163 [1] none] (s.updModem fun m => { m with linkUp := true, postedUp := true }) := by
  rw [raised, if_neg (by simp [h]), postLink_of_running (s := s.updModem _) hactive hrun]
  rfl

/-- A frame begins: where no MODE CHANGE waits for it, only its octets come with the offer. -/
theorem beginFrame_eq {t : State} (hactive : s.power.state = .active) (hraised : (raised s).power.state = .active)
    (hoffer : makeOffer (timerFull (raised s)) = t) (hoffered : t.power.state = .active)
    (hwork : ∀ c n armed, t.modem.sendWork ≠ some (.mode c n armed)) : beginFrame s = octetsFormed t := by
  have hheld : changesHeld (s.updModem fun m => { m with linkUp := true }) = false := changesHeld_of_active hactive
  have hfull : linkFull (raised s) = 16000 := linkFull_of_active hraised
  have hawake : linkAsleep (timerFull (raised s)) = false := linkAsleep_of_active hraised
  have hraise : (if s.modem.linkUp then s
      else if changesHeld (s.updModem fun m => { m with linkUp := true }) then s.updModem fun m => { m with linkUp := true }
        else postLink true (s.updModem fun m => { m with linkUp := true })) = raised s := by
    rw [hheld]
    rfl
  have hoffer' : (if linkAsleep (timerFull (raised s)) then timerFull (raised s)
      else makeOffer (timerFull (raised s))) = t := by rw [hawake, ← hoffer]; rfl
  have htimer : (raised s).updModem (fun m => { m with linkTimer := some 16000 }) = timerFull (raised s) := rfl
  simp only [beginFrame]
  rw [hraise, hfull, htimer, hoffer', linkAsleep_of_active hoffered]
  unfold octetsFormed State.updModem
  cases hw : t.modem.sendWork with
  | none => simp [hw]
  | some w =>
    cases w with
    | mode c n armed => exact absurd hw (hwork c n armed)
    | block j => simp [hw]
    | wait m v t0 ms => simp [hw]

/-- A frame sync is over once its offer is made, where no fetch follows it. -/
theorem exec_frameSync {t : State} (hactive : s.power.state = .active) (hraised : (raised s).power.state = .active)
    (hoffer : makeOffer (timerFull (raised s)) = t) (hrest : atRest t)
    (hwork : ∀ c n armed, t.modem.sendWork ≠ some (.mode c n armed)) (hfetch : fetchSend (octetsFormed t) = octetsFormed t) :
    exec .frameSync s = .next (rested (octetsFormed t)) := by
  have hexec : exec .frameSync s = .next (settle (fetchSend (beginFrame s))) := rfl
  have hrest' : atRest (octetsFormed t) := hrest
  rw [hexec, beginFrame_eq hactive hraised hoffer hrest.active hwork, hfetch, settle_atRest _ hrest']

/-- The state after an offer of a block's next byte (R99, R102). -/
def blockOffered (j : SendBlockJob) (b : Byte) (rest : List Byte) (s : State) : State :=
  s.updModem fun m =>
    { m with
      send := .offered { byte := b, fill := false, last := j.last && decide (j.offered + 1 = j.count), spent := false }
      waited := 0, store := rest, runOpen := true, underrun := false
      mode := if j.offered = 0 then j.mode else m.mode
      sendWork := some (.block { j with offered := j.offered + 1 }) }

theorem makeOffer_block {j : SendBlockJob} {b : Byte} {rest : List Byte} (hidle : s.modem.send = .idle)
    (hwork : s.modem.sendWork = some (.block j)) (hstore : s.modem.store = b :: rest) :
    makeOffer s = blockOffered j b rest s := by
  simp only [makeOffer, hidle, hwork, hstore]
  rfl

theorem makeOffer_fill (hidle : s.modem.send = .idle) (hwork : s.modem.sendWork = none)
    (hunder : s.modem.underrun = true) (hfill : s.modem.fillOk = true) (hnone : noBlock s = true) :
    makeOffer s = offerByte { byte := s.modem.fillByte, fill := true, last := false, spent := false } s := by
  simp [makeOffer, hidle, hwork, hunder, hfill, hnone]

theorem makeOffer_nothing (hidle : s.modem.send = .idle) (hwork : s.modem.sendWork = none)
    (hunder : s.modem.underrun = false) : makeOffer s = s := by
  simp [makeOffer, hidle, hwork, hunder]

theorem makeOffer_busy (h : s.modem.send ≠ .idle) : makeOffer s = s := by
  unfold makeOffer
  split
  next hidle => exact absurd hidle h
  next => rfl

/-- Without a SEND record in work no fetch and no MODE CHANGE meets a frame. -/
theorem exec_frameSync_no_work {t : State} (hactive : s.power.state = .active) (hraised : (raised s).power.state = .active)
    (hoffer : makeOffer (timerFull (raised s)) = t) (hrest : atRest t) (hwork : t.modem.sendWork = none) :
    exec .frameSync s = .next (rested (octetsFormed t)) := by
  have hwork' : (octetsFormed t).modem.sendWork = none := hwork
  exact exec_frameSync hactive hraised hoffer hrest (by simp [hwork]) (fetchSend_of_no_block (by simp [hwork']))

theorem frameSync_raises_link (hrest : atRest s) (hrun : s.regs.engine = .running) (hdown : s.modem.linkUp = false)
    (hidle : s.modem.send = .idle) (hwork : s.modem.sendWork = none) (hunder : s.modem.underrun = false) :
    exec .frameSync s = .next (rested (asking [areaPost s 163 [1] none] (s.updModem fun m =>
      { m with
        linkUp := true, postedUp := true, linkTimer := some 16000
        frame := some (BitVec.ofNat 8 (16 * m.mode.toNat + if m.acked then 2 else 0), 0) }))) := by
  have hraised := raised_of_down hrest.active hrun hdown
  have hactive : (raised s).power.state = .active := by rw [hraised]; exact hrest.active
  have hoffer : makeOffer (timerFull (raised s)) = timerFull (raised s) := by
    rw [hraised]
    exact makeOffer_nothing hidle hwork hunder
  have hwork' : (timerFull (raised s)).modem.sendWork = none := by rw [hraised]; exact hwork
  have hrest' : atRest (timerFull (raised s)) := by rw [hraised]; exact hrest
  have hidle' : (timerFull (raised s)).modem.send = .idle := by rw [hraised]; exact hidle
  rw [exec_frameSync_no_work hrest.active hactive hoffer hrest' hwork', octetsFormed_idle hidle', hraised]
  rfl

/-- On an UP link a frame sync makes the offer and restarts the timer; a block's first byte alone brings its mode code. -/
theorem frameSync_offers_block {j : SendBlockJob} {b : Byte} {rest : List Byte} (hrest : atRest s)
    (hup : s.modem.linkUp = true) (hidle : s.modem.send = .idle) (hwork : s.modem.sendWork = some (.block j))
    (hlater : 0 < j.offered) (hstore : s.modem.store = b :: rest) (hfetching : 0 < s.modem.fetching) :
    exec .frameSync s = .next (rested (s.updModem fun m =>
      { m with
        linkTimer := some 16000, waited := 0, store := rest, runOpen := true, underrun := false
        send := .offered { byte := b, fill := false, last := j.last && decide (j.offered + 1 = j.count), spent := false }
        frame := some (controlOctet m.mode true (j.last && decide (j.offered + 1 = j.count)) m.acked false, b)
        sendWork := some (.block { j with offered := j.offered + 1 }) })) := by
  have hraised := raised_of_up hup
  have hoffer : makeOffer (timerFull (raised s)) = blockOffered j b rest (timerFull s) := by
    rw [hraised]
    exact makeOffer_block (s := timerFull s) hidle hwork hstore
  have hmode : (blockOffered j b rest (timerFull s)).modem.mode = s.modem.mode := if_neg (Nat.pos_iff_ne_zero.1 hlater)
  have hoctets := octetsFormed_offered (s := blockOffered j b rest (timerFull s)) rfl
  rw [State.updModem, hmode] at hoctets
  rw [exec_frameSync hrest.active (by rw [hraised]; exact hrest.active) hoffer ((hrest.updModem _).updModem _)
    (by intro c n armed; exact nofun) (fetchSend_waits (s := octetsFormed _) rfl (.inl hfetching)), hoctets]
  rfl

theorem frameSync_up_no_work {t : State} (hrest : atRest s) (hup : s.modem.linkUp = true)
    (hoffer : makeOffer (timerFull s) = t) (ht : atRest t) (hwork : t.modem.sendWork = none) :
    exec .frameSync s = .next (rested (octetsFormed t)) := by
  have hraised := raised_of_up hup
  exact exec_frameSync_no_work hrest.active (by rw [hraised]; exact hrest.active) (by rw [hraised]; exact hoffer) ht hwork

theorem frameSync_offers_fill (hrest : atRest s) (hup : s.modem.linkUp = true) (hidle : s.modem.send = .idle)
    (hwork : s.modem.sendWork = none) (hunder : s.modem.underrun = true) (hfill : s.modem.fillOk = true)
    (hnone : (s.chain .send).taken = none) :
    exec .frameSync s = .next (rested (s.updModem fun m =>
      { m with
        linkTimer := some 16000, send := .offered { byte := m.fillByte, fill := true, last := false, spent := false }
        waited := 0, frame := some (controlOctet m.mode true false m.acked false, m.fillByte) })) := by
  have hoffer := makeOffer_fill (s := timerFull s) hidle hwork hunder hfill (noBlock_of_none_taken hnone)
  rw [frameSync_up_no_work hrest hup hoffer ((hrest.updModem _).updModem _) hwork,
    octetsFormed_offered (s := offerByte _ (timerFull s)) rfl]
  rfl

theorem frameSync_aborting {n : Nat} (hrest : atRest s) (hup : s.modem.linkUp = true) (hsend : s.modem.send = .aborting n)
    (hwork : s.modem.sendWork = none) :
    exec .frameSync s = .next (rested (s.updModem fun m =>
      { m with linkTimer := some 16000, frame := some (controlOctet m.mode false false m.acked true, 0) })) := by
  have hsend' : (timerFull s).modem.send = .aborting n := hsend
  have hoffer : makeOffer (timerFull s) = timerFull s := makeOffer_busy (by rw [hsend']; exact nofun)
  rw [frameSync_up_no_work hrest hup hoffer (hrest.updModem _) hwork, octetsFormed_aborting hsend']
  rfl

/-! ## A report (R95): its stages -/

/-- The frame in progress is over. -/
def unframed (s : State) : State := s.updModem fun m => { m with frame := none }

/-- A report without IV whose code is the accepted one ends a receive hold and a candidate (R97, R108). -/
def quieted (s : State) : State :=
  s.updModem fun m => { m with candidate := none, holdActive := false, holdTimer := none }

@[simp] theorem quieted_dram (s : State) : (quieted s).dram = s.dram := rfl

@[simp] theorem quieted_chains (s : State) : (quieted s).chains = s.chains := rfl

theorem exec_frameReport {o d data : Byte} {iv il oa : Bool} {code : BitVec 4} {t u v : State}
    (hactive : s.power.state = .active) (hframe : s.modem.frame = some (o, d))
    (hsend : countModeFrame (sendReport oa (o.getLsbD 0) (unframed s)) = t) (hreceive : receiveReport iv il data t = u)
    (hcode : codeReport code u = v) (hrest : atRest v) :
    exec (.frameReport (reportOctet iv il oa code) data) s = .next (rested v) := by
  obtain ⟨hcodeField, hiv, hil, hoa⟩ := reportOctet_fields iv il oa code
  have hexec : exec (.frameReport (reportOctet iv il oa code) data) s
      = .next (settle (frameEnd (reportOctet iv il oa code) data s)) := rfl
  have hawake : linkAsleep (unframed s) = false := linkAsleep_of_active hactive
  have hend : frameEnd (reportOctet iv il oa code) data s
      = codeReport code (receiveReport iv il data
          (if linkAsleep (unframed s) then unframed s
            else countModeFrame (sendReport oa (o.getLsbD 0) (unframed s)))) := by
    simp only [frameEnd, hframe, hcodeField, hiv, hil, hoa]
    rfl
  rw [hawake, if_neg (by simp), hsend, hreceive, hcode] at hend
  rw [hexec, hend, settle_atRest _ hrest]

theorem receiveReport_silent (hacked : s.modem.acked = false) (il : Bool) (data : Byte) :
    receiveReport false il data s = s.updModem fun m => { m with holdActive := false, holdTimer := none } := by
  simp [receiveReport, hacked]

theorem codeReport_same {code : BitVec 4} (h : s.modem.code = code) :
    codeReport code s = s.updModem fun m => { m with candidate := none } := if_pos h.symm

/-- A report that brings no byte and no new code is the send handshake's. -/
theorem exec_quietReport {o d data : Byte} {oa : Bool} {code : BitVec 4} {t : State} (hactive : s.power.state = .active)
    (hframe : s.modem.frame = some (o, d)) (hsend : countModeFrame (sendReport oa (o.getLsbD 0) (unframed s)) = t)
    (hacked : t.modem.acked = false) (hcode : t.modem.code = code) (hrest : atRest t) :
    exec (.frameReport (reportOctet false false oa code) data) s = .next (rested (quieted t)) :=
  exec_frameReport hactive hframe hsend (receiveReport_silent hacked false data)
    (codeReport_same (s := t.updModem fun m => { m with holdActive := false, holdTimer := none }) hcode) hrest

/-- No MODE CHANGE counts the frame that ends (R105). -/
def unarmed (s : State) : Prop := ∀ c n, s.modem.sendWork ≠ some (.mode c n true)

theorem countModeFrame_of_unarmed (h : unarmed s) : countModeFrame s = s := by
  unfold countModeFrame
  split
  next c n hwork => exact absurd hwork (h c n)
  next => rfl

theorem sendStage_of_unarmed {oa ab : Bool} {t : State} (hsend : sendReport oa ab s = t) (h : unarmed t) :
    countModeFrame (sendReport oa ab s) = t := by
  rw [hsend, countModeFrame_of_unarmed h]

theorem unarmed_of_block {j : SendBlockJob} (h : s.modem.sendWork = some (.block j)) : unarmed s := by
  intro c n
  simp [h]

theorem unarmed_of_none (h : s.modem.sendWork = none) : unarmed s := by
  intro c n
  simp [h]

/-! ## The send handshake at a report (R99 to R104) -/

theorem sendReport_idle (h : s.modem.send = .idle) (oa ab : Bool) : sendReport oa ab s = s := by simp only [sendReport, h]

/-- An acknowledged byte is retracting, its wait over (R99). -/
def retracting (b : SendByte) (s : State) : State := s.updModem fun m => { m with send := .retracting b, waited := 0 }

theorem sendReport_acknowledged {b : SendByte} (h : s.modem.send = .offered b) (ab : Bool) :
    sendReport true ab s = if b.fill then fillAcked (retracting b s) else blockAcked b (retracting b s) := by
  simp only [sendReport, h]
  rfl

/-- The pump owes an answer: OA to an offered byte, its end to a retracting one (R99). -/
def unanswered (b : SendByte) (oa : Bool) (s : State) : Prop :=
  (s.modem.send = .offered b ∧ oa = false) ∨ (s.modem.send = .retracting b ∧ oa = true)

theorem sendReport_unanswered {b : SendByte} {oa : Bool} (h : unanswered b oa s) (ab : Bool) :
    sendReport oa ab s = countWaited b s := by
  rcases h with ⟨hsend, rfl⟩ | ⟨hsend, rfl⟩ <;> simp [sendReport, hsend]

theorem sendReport_dropped {b : SendByte} (h : s.modem.send = .retracting b) (ab : Bool) :
    sendReport false ab s = handshakeIdle s := by
  simp [sendReport, h]

theorem sendReport_abort_counts {n : Nat} (h : s.modem.send = .aborting n) (hmore : n + 1 < 4) (oa : Bool) :
    sendReport oa true s = s.updModem fun m => { m with send := .aborting (n + 1) } := by
  simp [sendReport, h, hmore]

theorem sendReport_abort_ends {n : Nat} (h : s.modem.send = .aborting n) (hlast : 4 ≤ n + 1) (oa : Bool)
    (hreset : s.modem.resetAbort = false) : sendReport oa true s = handshakeIdle s := by
  have hmodem : endResetAbort s.modem = s.modem := by simp [endResetAbort, hreset]
  have hnot : ¬ n + 1 < 4 := Nat.not_lt.2 hlast
  have hsame : s.updModem endResetAbort = s := by rw [State.updModem, hmodem]
  simp [sendReport, h, hnot, hsame]

theorem handshakeIdle_closed (h : s.modem.runOpen = false) :
    handshakeIdle s = s.updModem fun m => { m with send := .idle, waited := 0 } := by
  simp [handshakeIdle, h]

/-- With the run open and no block to follow an underrun begins, or goes on with its count (R103, R104). -/
theorem handshakeIdle_open (h : s.modem.runOpen = true) (hnone : noBlock s = true) :
    handshakeIdle s = s.updModem fun m =>
      { m with send := .idle, waited := 0, underrun := true, fillCount := if m.underrun then m.fillCount else 0 } := by
  have hnone' : noBlock (s.updModem fun m => { m with send := .idle, waited := 0 }) = true := hnone
  simp only [handshakeIdle, State.updModem_modem, h, hnone', Bool.and_self, if_true]
  rfl

theorem countWaited_within {b : SendByte} (h : s.modem.waited + 1 ≤ s.modem.ackLimit) :
    countWaited b s = s.updModem fun m => { m with waited := m.waited + 1 } := if_neg (Nat.not_lt.2 h)

theorem countWaited_beyond {b : SendByte} (h : s.modem.ackLimit < s.modem.waited + 1) :
    countWaited b s = handshakeTimeout b (s.updModem fun m => { m with waited := m.waited + 1 }) := if_pos h

/-- A timeout of a block's byte fails the block in work, or the next one of a run left open (R100). -/
theorem handshakeTimeout_fails {b : SendByte} {j : SendBlockJob} {r : Taken} (hactive : s.power.state = .active)
    (hblock : b.fill = false) (hwork : s.modem.sendWork = some (.block j)) (htaken : (s.chain .send).taken = some r)
    (hstage : r.stage = .working) (hkind : r.kind = .sendBlock) (hopen : b.spent = false ∨ s.modem.runOpen = true) :
    handshakeTimeout b s = blockEnded r .failed .modemTimeout j (enterAborting s) := by
  have hno : noBlock (enterAborting s) = false := noBlock_of_block htaken hstage hkind
  have haffected : (!b.spent || s.modem.runOpen) = true := by simpa using hopen
  have hwork' : (enterAborting s).modem.sendWork = some (.block j) := hwork
  simp only [handshakeTimeout, hblock, hno, haffected, Bool.not_false, Bool.and_self, if_true, Bool.false_eq_true, if_false,
    failBlock, hwork']
  exact endSend_block_eq (s := enterAborting s) hactive htaken hstage hwork .failed .modemTimeout

/-- After the last byte of a block that closed its run no record fails, and FAULT follows the code (R100). -/
theorem handshakeTimeout_posts {b : SendByte} (hactive : s.power.state = .active) (hrun : s.regs.engine = .running)
    (hblock : b.fill = false) (hspent : b.spent = true) (hclosed : s.modem.runOpen = false) :
    handshakeTimeout b s = asking [areaPost s 161 [4] (some .fault)] (enterAborting s) := by
  simp only [handshakeTimeout, hblock, hspent, hclosed, Bool.not_true, Bool.or_self, Bool.and_false, Bool.false_eq_true,
    if_false]
  exact postFault_of_running (s := enterAborting s) hactive hrun .modemTimeout

theorem blockAcked_more {b : SendByte} {j : SendBlockJob} (hwork : s.modem.sendWork = some (.block j))
    (hmore : j.sent + 1 < j.count) :
    blockAcked b s = s.updModem fun m => { m with sendWork := some (.block { j with sent := j.sent + 1 }) } := by
  simp only [blockAcked, hwork]
  exact if_neg (Nat.not_le.2 hmore)

/-- The last byte of a block is acknowledged: DONE, the run left open or closed, the fill taken from the block (R102, R103). -/
def blockDone (r : Taken) (b : SendByte) (j : SendBlockJob) (s : State) : State :=
  (blockEnded r .done .none { j with sent := j.sent + 1 } s).updModem fun m =>
    { m with runOpen := !j.last, fillOk := j.fillOk, fillByte := j.fillByte, send := .retracting { b with spent := true } }

theorem blockAcked_last {b : SendByte} {j : SendBlockJob} {r : Taken} (hactive : s.power.state = .active)
    (htaken : (s.chain .send).taken = some r) (hstage : r.stage = .working) (hwork : s.modem.sendWork = some (.block j))
    (hlast : j.count ≤ j.sent + 1) : blockAcked b s = blockDone r b j s := by
  have hend := endSend_block_eq (s := s.updSend (some (.block { j with sent := j.sent + 1 }))) hactive htaken hstage rfl
    .done .none
  simp only [blockAcked, hwork, hlast, if_true, hend]
  rfl

/-- A fill byte counted, and posted in the total (R104). -/
def fillCounted (s : State) : State :=
  asking [areaPost s 184 (be32 (s.modem.fillTotal + 1).toNat) none]
    (s.updModem fun m => { m with fillCount := m.fillCount + 1, fillTotal := m.fillTotal + 1 })

theorem fillAcked_eq (hactive : s.power.state = .active) (hrun : s.regs.engine = .running) :
    fillAcked s = if noBlock (fillCounted s) && decide ((fillCounted s).modem.fillLimit ≤ (fillCounted s).modem.fillCount)
      then endSend .failed .underrunAbort (postFault .underrunAbort (enterAborting (fillCounted s))) else fillCounted s := by
  have hpost : postStatus 24 (be32 (s.modem.fillTotal + 1).toNat)
      (s.updModem fun m => { m with fillCount := m.fillCount + 1, fillTotal := m.fillTotal + 1 }) = fillCounted s :=
    post_of_running (s := s.updModem _) hactive hrun ..
  simp only [fillAcked, State.updModem_modem, hpost]

theorem fillAcked_more (hactive : s.power.state = .active) (hrun : s.regs.engine = .running)
    (hmore : s.modem.fillCount + 1 < s.modem.fillLimit) : fillAcked s = fillCounted s := by
  have hnot : ¬ (fillCounted s).modem.fillLimit ≤ (fillCounted s).modem.fillCount := Nat.not_le.2 hmore
  rw [fillAcked_eq hactive hrun, if_neg (by simp [hnot])]

theorem fillAcked_limit (hactive : s.power.state = .active) (hrun : s.regs.engine = .running)
    (hnone : (s.chain .send).taken = none) (hwork : s.modem.sendWork = none)
    (hlimit : s.modem.fillLimit ≤ s.modem.fillCount + 1) :
    fillAcked s = asking [areaPost s 161 [5] (some .fault)] (enterAborting (fillCounted s)) := by
  have hlimit' : (fillCounted s).modem.fillLimit ≤ (fillCounted s).modem.fillCount := hlimit
  have hnone' : noBlock (fillCounted s) = true := noBlock_of_none_taken hnone
  have hwork' : (enterAborting (fillCounted s)).modem.sendWork = none := hwork
  rw [fillAcked_eq hactive hrun, if_pos (by simp [hnone', hlimit']),
    postFault_of_running (s := enterAborting (fillCounted s)) hactive hrun, endSend_none (by exact hwork')]
  rfl

/-! ## A MODE CHANGE's frames (R105) -/

theorem countModeFrame_first {c : BitVec 4} (h : s.modem.sendWork = some (.mode c 0 true)) :
    countModeFrame s = s.updModem fun m => { m with sendWork := some (.mode c 1 false) } := by
  simp only [countModeFrame, h]
  rfl

theorem countModeFrame_second {c : BitVec 4} {n : Nat} (h : s.modem.sendWork = some (.mode c n true)) (hn : 1 ≤ n) :
    countModeFrame s = endSend .done .none s := by
  simp only [countModeFrame, h]
  exact if_neg (by omega)

/-! ## The receive handshake at a report (R107, R108) -/

theorem receiveReport_acked (hacked : s.modem.acked = true) (iv il : Bool) (data : Byte) :
    receiveReport iv il data s = s.updModem fun m => { m with acked := iv } := by
  cases iv with
  | false => simp [receiveReport, hacked]
  | true =>
    have hsame : ({ s.modem with acked := true } : Modem) = s.modem := by rw [← hacked]
    simp only [receiveReport, hacked, if_true, State.updModem, hsame]

/-- A byte comes into the latch, and its write is asked for (R107). -/
def latched (j : ReceiveJob) (data : Byte) (il : Bool) (s : State) : State :=
  { s with
    dram := { s.dram with modem := s.dram.modem ++
      [{ tag := .receive, addr := j.addr + j.count, data := .write [data], note := none }] }
    modem := { s.modem with
      latch := some (data, il), acked := true, holdActive := false, holdTimer := none
      receiveWork := some { j with count := j.count + 1 } } }

theorem atRest.latched (h : atRest s) (j : ReceiveJob) (data : Byte) (il : Bool) : atRest (latched j data il s) := h

theorem receiveReport_latches {j : ReceiveJob} (hactive : s.power.state = .active) (hacked : s.modem.acked = false)
    (hwork : s.modem.receiveWork = some j) (hlatch : s.modem.latch = none) (il : Bool) (data : Byte) :
    receiveReport true il data s = latched j data il s := by
  have hawake := linkAsleep_of_active hactive
  simp [receiveReport, hacked, hawake, hwork, hactive, hlatch, ask, requestsHeld]
  rfl

theorem receiveReport_full {j : ReceiveJob} (hactive : s.power.state = .active) (hacked : s.modem.acked = false)
    (hwork : s.modem.receiveWork = some j) (hlatch : s.modem.latch ≠ none) (il : Bool) (data : Byte) :
    receiveReport true il data s = s := by
  have hawake := linkAsleep_of_active hactive
  have hfull : s.modem.latch.isSome = true := Option.isSome_iff_ne_none.2 hlatch
  simp [receiveReport, hacked, hawake, hwork, hactive, hfull]

/-- Without a buffer a byte begins a receive hold (R108). -/
theorem receiveReport_holds (hactive : s.power.state = .active) (hrun : s.regs.engine = .running)
    (hacked : s.modem.acked = false) (hwork : s.modem.receiveWork = none) (hnone : (s.chain .receive).taken = none)
    (hhold : s.modem.holdActive = false) (il : Bool) (data : Byte) :
    receiveReport true il data s = s.updModem fun m =>
      { m with holdActive := true, holdTimer := if m.holdLimitMs = 0 then none else some (m.holdLimitMs * 1000) } := by
  have hawake := linkAsleep_of_active hactive
  simp [receiveReport, hacked, hawake, hwork, hhold, State.isRunning, hrun, inWork, hnone]

/-! ## The condition code at a report (R97, R98) -/

theorem codeReport_first {code : BitVec 4} (hnew : code ≠ s.modem.code) (hfirst : s.modem.candidate ≠ some code) :
    codeReport code s = s.updModem fun m => { m with candidate := some code } := by
  rw [codeReport, if_neg hnew, if_neg hfirst]

/-- An accepted code in force and posted (R97). -/
def codeTaken (code : BitVec 4) (s : State) : State :=
  asking [areaPost s 164 [BitVec.ofNat 8 code.toNat] (some .condition)]
    (s.updModem fun m => { m with code := code, candidate := none, postedCode := code })

/-- A code's second report in a row is accepted; without a CONDITION WAIT in work, code 15 alone brings more (R97, R98). -/
theorem codeReport_second {code : BitVec 4} (hactive : s.power.state = .active) (hrun : s.regs.engine = .running)
    (hnew : code ≠ s.modem.code) (hsecond : s.modem.candidate = some code)
    (hwork : ∀ m v t0 ms, s.modem.sendWork ≠ some (.wait m v t0 ms)) :
    codeReport code s = if code = 15 then modemFault (codeTaken code s) else codeTaken code s := by
  have hheld : changesHeld (s.updModem fun m => { m with code := code, candidate := none }) = false :=
    changesHeld_of_active hactive
  have hpost : postCode (toActive (s.updModem fun m => { m with code := code, candidate := none })) = codeTaken code s := by
    rw [toActive_of_active (s := s.updModem _) hactive, postCode_of_running (s := s.updModem _) hactive hrun]
    rfl
  rw [codeReport, if_neg hnew, if_pos hsecond]
  have hsame : (codeTaken code s).modem.sendWork = s.modem.sendWork := rfl
  simp only [acceptCode, hheld, Bool.false_eq_true, if_false, hpost]
  cases hw : s.modem.sendWork with
  | none => simp only [hsame, hw]
  | some w =>
    cases w with
    | wait m v t0 ms => exact absurd hw (hwork m v t0 ms)
    | block j => simp only [hsame, hw]
    | mode c n armed => simp only [hsame, hw]

/-- Code 15 fails the block in work and aborts its run (R98). -/
theorem modemFault_block {j : SendBlockJob} {r : Taken} (hactive : s.power.state = .active)
    (htaken : (s.chain .send).taken = some r) (hstage : r.stage = .working) (hwork : s.modem.sendWork = some (.block j))
    (hnone : s.modem.receiveWork = none) (hopen : s.modem.runOpen = true) :
    modemFault s = enterAborting (blockEnded r .failed .modemFault j s) := by
  have hnone' : (blockEnded r .failed .modemFault j s).modem.receiveWork = none := hnone
  have hopen' : (blockEnded r .failed .modemFault j s).modem.runOpen = true := hopen
  simp only [modemFault, endSend_block_eq hactive htaken hstage hwork, stopReceive_none hnone', hopen', Bool.or_true, if_true]

/-! ## The link timer (R96) -/

/-- The link DOWN in the link unit's state: handshakes IDLE, no run, no hold, no candidate. -/
def downed (m : Modem) : Modem :=
  endResetAbort
    { m with
      linkUp := false, linkTimer := none, candidate := none, send := .idle, waited := 0, runOpen := false
      underrun := false, fillCount := 0, acked := false, holdActive := false, holdTimer := none }

theorem downed_linkUp (m : Modem) : (downed m).linkUp = false := by
  unfold downed endResetAbort
  split <;> rfl

theorem linkDown_no_work (hactive : s.power.state = .active) (hsend : s.modem.sendWork = none)
    (hreceive : s.modem.receiveWork = none) : linkDown s = postFault .linkDown (postLink false (s.updModem downed)) := by
  have hheld : changesHeld (s.updModem downed) = false := changesHeld_of_active hactive
  have hsend' : (s.updModem fun m => { m with linkUp := false, linkTimer := none, candidate := none }).modem.sendWork
      = none := hsend
  have hreceive' : (s.updModem fun m => { m with linkUp := false, linkTimer := none, candidate := none }).modem.receiveWork
      = none := hreceive
  simp only [linkDown, endSend_none hsend', stopReceive_none hreceive']
  exact if_neg (show ¬ changesHeld (s.updModem downed) = true by rw [hheld]; decide)

/-- The link DOWN, its state last posted as such. -/
def downPosted (s : State) : State := s.updModem fun m => { downed m with postedUp := false }

theorem exec_linkTimerExpiry {t : State} (h : s.modem.linkTimer = some 0) (hdown : linkDown s = t) (hrest : atRest t) :
    exec .linkTimerExpiry s = .next (rested t) := by
  have hexec : exec .linkTimerExpiry s = .next (settle (linkDown s)) := if_pos h
  rw [hexec, hdown, settle_atRest _ hrest]

theorem linkDown_of_running (hactive : s.power.state = .active) (hrun : s.regs.engine = .running)
    (hsend : s.modem.sendWork = none) (hreceive : s.modem.receiveWork = none) :
    linkDown s = asking [areaPost s 163 [0] none, areaPost s 161 [3] (some .fault)] (downPosted s) := by
  have hlink : postLink false (s.updModem downed) = asking [areaPost s 163 [0] none] (downPosted s) :=
    postLink_of_running (s := s.updModem downed) hactive hrun false
  rw [linkDown_no_work hactive hsend hreceive, hlink,
    postFault_of_running (s := asking [areaPost s 163 [0] none] (downPosted s)) hactive hrun, asking_asking]
  rfl

/-- Without a reset abort the mode code stays (R112). -/
theorem linkTimerExpiry_running (hrest : atRest s) (hrun : s.regs.engine = .running) (htimer : s.modem.linkTimer = some 0)
    (hsend : s.modem.sendWork = none) (hreceive : s.modem.receiveWork = none) (hreset : s.modem.resetAbort = false) :
    exec .linkTimerExpiry s = .next (rested (asking [areaPost s 163 [0] none, areaPost s 161 [3] (some .fault)]
      (s.updModem fun m =>
        { m with
          linkUp := false, linkTimer := none, candidate := none, postedUp := false, send := .idle, waited := 0
          runOpen := false, underrun := false, fillCount := 0, acked := false, holdActive := false, holdTimer := none }))) := by
  have hrest' : atRest (asking [areaPost s 163 [0] none, areaPost s 161 [3] (some .fault)] (downPosted s)) :=
    (hrest.updModem _).asking _
  have hdowned : downPosted s = s.updModem fun m =>
      { m with
        linkUp := false, linkTimer := none, candidate := none, postedUp := false, send := .idle, waited := 0
        runOpen := false, underrun := false, fillCount := 0, acked := false, holdActive := false, holdTimer := none } := by
    simp [downPosted, State.updModem, downed, endResetAbort, hreset]
  rw [exec_linkTimerExpiry htimer (linkDown_of_running hrest.active hrun hsend hreceive) hrest', hdowned]

/-- A post in an engine reset stands before the write of STOPPED that waits (R127, log entry 46). -/
theorem post_of_resetting {before : List Xfer} {x : Xfer} (hactive : s.power.state = .active)
    (hreset : s.regs.engine = .resetting) (hgrant : s.dram.grant = none) (hchain : s.dram.chain = before ++ [x])
    (hx : x.tag = .stopped) (hbefore : ∀ y ∈ before, y.tag ≠ .stopped) (offset : Nat) (bytes : List Byte)
    (note : Option Note) : posting s = true ∧ post offset bytes note s
      = { s with dram := { s.dram with chain := before ++ [areaPost s offset bytes note, x] } } := by
  have hposting : posting s = true := by
    simp [posting, hreset, requestsHeld, hactive, stoppedGranted, splitGranted, hgrant]
  refine ⟨hposting, ?_⟩
  simp only [post, hposting, if_true, hreset, reduceCtorEq, if_false, hchain, State.updDram]
  rw [beforeStopped_stopped _ x before [] hbefore hx]
  rfl

theorem linkDown_of_resetting {before : List Xfer} {x : Xfer} (hactive : s.power.state = .active)
    (hreset : s.regs.engine = .resetting) (hgrant : s.dram.grant = none) (hchain : s.dram.chain = before ++ [x])
    (hx : x.tag = .stopped) (hbefore : ∀ y ∈ before, y.tag ≠ .stopped) (hsend : s.modem.sendWork = none)
    (hreceive : s.modem.receiveWork = none) :
    linkDown s = (downPosted s).updDram fun d =>
      { d with chain := before ++ [areaPost s 163 [0] none, areaPost s 161 [3] (some .fault), x] } := by
  obtain ⟨hposting, hfirst⟩ := post_of_resetting (s := s.updModem downed) hactive hreset hgrant hchain hx hbefore 163 [0] none
  have hlink : postLink false (s.updModem downed)
      = (downPosted s).updDram fun d => { d with chain := (before ++ [areaPost s 163 [0] none]) ++ [x] } := by
    rw [postLink, if_pos hposting, show be8 (if false = true then 1 else 0) = [0] from rfl, hfirst, List.append_assoc]
    rfl
  have hbefore' : ∀ y ∈ before ++ [areaPost s 163 [0] none], y.tag ≠ .stopped := by
    intro y hy
    rcases List.mem_append.1 hy with hy | hy
    · exact hbefore y hy
    · rw [List.mem_singleton.1 hy]
      exact nofun
  obtain ⟨-, hsecond⟩ := post_of_resetting
    (s := (downPosted s).updDram fun d => { d with chain := (before ++ [areaPost s 163 [0] none]) ++ [x] })
    hactive hreset hgrant rfl hx hbefore' 161 (be8 FaultCode.linkDown.code) (some .fault)
  rw [linkDown_no_work hactive hsend hreceive, hlink, postFault, hsecond]
  exact congrArg (fun l => (downPosted s).updDram fun d => { d with chain := l }) (List.append_assoc before _ _)

end

end Sys2Proof.Machine

/-! SUPPORT. Reports of the modem link (R97 to R108): the whole report for each state of the two handshakes. -/

namespace Sys2Proof.Machine

section
variable {s : State} {o d data : Byte}

/-! ## Reports that end in the send handshake -/

/-- A report is the send handshake's where no MODE CHANGE counts frames and no byte or new code comes. -/
theorem report_of_sendReport {oa : Bool} {xs : List Xfer} {t : State} (hrest : atRest s)
    (hframe : s.modem.frame = some (o, d)) (hsend : sendReport oa (o.getLsbD 0) (unframed s) = asking xs t)
    (hmode : unarmed t) (hacked : t.modem.acked = false) (hcode : t.modem.code = s.modem.code) (ht : atRest t) :
    exec (.frameReport (reportOctet false false oa s.modem.code) data) s = .next (rested (asking xs (quieted t))) :=
  exec_quietReport (t := asking xs t) hrest.active hframe (sendStage_of_unarmed hsend hmode) hacked hcode ht

/-- The same, nothing being asked for. -/
theorem report_of_sendReport_silent {oa : Bool} {t : State} (hrest : atRest s) (hframe : s.modem.frame = some (o, d))
    (hsend : sendReport oa (o.getLsbD 0) (unframed s) = t) (hmode : unarmed t) (hacked : t.modem.acked = false)
    (hcode : t.modem.code = s.modem.code) (ht : atRest t) :
    exec (.frameReport (reportOctet false false oa s.modem.code) data) s = .next (rested (asking [] (quieted t))) :=
  report_of_sendReport hrest hframe (hsend.trans (asking_nil t).symm) hmode hacked hcode ht

theorem report_block_acked {j : SendBlockJob} {b : SendByte} (hrest : atRest s) (hframe : s.modem.frame = some (o, d))
    (hacked : s.modem.acked = false) (hsend : s.modem.send = .offered b) (hblock : b.fill = false)
    (hwork : s.modem.sendWork = some (.block j)) (hmore : j.sent + 1 < j.count) :
    exec (.frameReport (reportOctet false false true s.modem.code) data) s = .next (rested (quieted (s.updModem fun m =>
      { m with
        frame := none, send := .retracting b, waited := 0, sendWork := some (.block { j with sent := j.sent + 1 }) }))) := by
  have hstage : sendReport true (o.getLsbD 0) (unframed s) = s.updModem fun m =>
      { m with
        frame := none, send := .retracting b, waited := 0, sendWork := some (.block { j with sent := j.sent + 1 }) } := by
    rw [sendReport_acknowledged (s := unframed s) hsend, if_neg (by simp [hblock]),
      blockAcked_more (s := retracting b (unframed s)) hwork hmore]
    rfl
  exact exec_quietReport hrest.active hframe (sendStage_of_unarmed hstage (unarmed_of_block rfl)) hacked rfl
    (hrest.updModem _)

/-- A SEND BLOCK whose last byte is acknowledged has ended DONE, its run left open or closed (R102, R103). -/
theorem report_block_done {j : SendBlockJob} {b : SendByte} {r : Taken} (hrest : atRest s)
    (hframe : s.modem.frame = some (o, d)) (hacked : s.modem.acked = false) (hsend : s.modem.send = .offered b)
    (hblock : b.fill = false) (hwork : s.modem.sendWork = some (.block j)) (htaken : (s.chain .send).taken = some r)
    (hstage : r.stage = .working) (hlast : j.count ≤ j.sent + 1) :
    ∃ t, exec (.frameReport (reportOctet false false true s.modem.code) data) s = .next (rested t)
      ∧ BlockEnds r .done .none { j with sent := j.sent + 1 }
        { s.modem with
          frame := none, waited := 0, store := [], fetching := 0, sendWork := none, waitTimer := none, runOpen := !j.last
          fillOk := j.fillOk, fillByte := j.fillByte, send := .retracting { b with spent := true }, candidate := none
          holdActive := false, holdTimer := none } s t := by
  have hreport : sendReport true (o.getLsbD 0) (unframed s) = blockDone r b j (retracting b (unframed s)) := by
    rw [sendReport_acknowledged (s := unframed s) hsend, if_neg (by simp [hblock]),
      blockAcked_last (s := retracting b (unframed s)) hrest.active htaken hstage hwork hlast]
  have hrest' : atRest (blockDone r b j (retracting b (unframed s))) :=
    (((hrest.updModem _).updModem _).blockEnded ..).updModem _
  have hexec := exec_quietReport (data := data) hrest.active hframe (sendStage_of_unarmed hreport (unarmed_of_none rfl)) hacked
    (code := s.modem.code) rfl hrest'
  have hends := blockEnds_blockEnded r .done .none { j with sent := j.sent + 1 } (retracting b (unframed s))
  exact ⟨_, hexec, ((hends.updModem_left.updModem_left).updModem_right _).updModem_right _⟩

/-- Within a block's bytes, or with its run left open, a missing answer is the block's (R100). -/
theorem unanswered_of_timeout {b : SendByte}
    (h : (s.modem.send = .offered b ∧ b.spent = false)
      ∨ (s.modem.send = .retracting b ∧ (b.spent = false ∨ s.modem.runOpen = true))) :
    unanswered b (decide (s.modem.send = .retracting b)) s ∧ (b.spent = false ∨ s.modem.runOpen = true) := by
  rcases h with ⟨hsend, hspent⟩ | ⟨hsend, hopen⟩
  · exact ⟨.inl ⟨hsend, by simp [hsend]⟩, .inl hspent⟩
  · exact ⟨.inr ⟨hsend, by simp [hsend]⟩, hopen⟩

/-- Beyond the ack limit the unit is ABORTING, and the block in work has ended FAILED MODEM-TIMEOUT (R100, R101). -/
theorem report_block_timeout {j : SendBlockJob} {b : SendByte} {oa : Bool} {r : Taken} (hrest : atRest s)
    (hframe : s.modem.frame = some (o, d)) (hacked : s.modem.acked = false) (hblock : b.fill = false)
    (hover : s.modem.ackLimit < s.modem.waited + 1) (hwork : s.modem.sendWork = some (.block j))
    (htaken : (s.chain .send).taken = some r) (hstage : r.stage = .working) (hkind : r.kind = .sendBlock)
    (hsend : unanswered b oa s) (hopen : b.spent = false ∨ s.modem.runOpen = true) :
    ∃ t, exec (.frameReport (reportOctet false false oa s.modem.code) data) s = .next (rested t)
      ∧ BlockEnds r .failed .modemTimeout j
        { s.modem with
          frame := none, send := .aborting 0, waited := 0, runOpen := false, underrun := false, fillCount := 0, store := []
          fetching := 0, sendWork := none, waitTimer := none, candidate := none, holdActive := false, holdTimer := none }
        s t := by
  have hreport : sendReport oa (o.getLsbD 0) (unframed s) = blockEnded r .failed .modemTimeout j
      (enterAborting ((unframed s).updModem fun m => { m with waited := m.waited + 1 })) := by
    rw [sendReport_unanswered (s := unframed s) (b := b) hsend, countWaited_beyond (s := unframed s) hover]
    exact handshakeTimeout_fails (s := (unframed s).updModem fun m => { m with waited := m.waited + 1 }) hrest.active hblock
      hwork htaken hstage hkind hopen
  have hrest' : atRest (blockEnded r .failed .modemTimeout j
      (enterAborting ((unframed s).updModem fun m => { m with waited := m.waited + 1 }))) :=
    (((hrest.updModem _).updModem _).updModem _).blockEnded ..
  have hexec := exec_quietReport (data := data) hrest.active hframe
    (sendStage_of_unarmed hreport (unarmed_of_none (by simp))) (by rw [blockEnded_modem]; exact hacked)
    (code := s.modem.code) (by rw [blockEnded_modem]; rfl) hrest'
  have hends := blockEnds_blockEnded r .failed .modemTimeout j
    (enterAborting ((unframed s).updModem fun m => { m with waited := m.waited + 1 }))
  exact ⟨_, hexec, hends.updModem_left.updModem_left.updModem_left.updModem_right _⟩

theorem report_spent_timeout {b : SendByte} (hrest : atRest s) (hrun : s.regs.engine = .running)
    (hframe : s.modem.frame = some (o, d)) (hacked : s.modem.acked = false) (hmode : unarmed s) (hblock : b.fill = false)
    (hsend : s.modem.send = .retracting b) (hover : s.modem.ackLimit < s.modem.waited + 1) (hspent : b.spent = true)
    (hclosed : s.modem.runOpen = false) :
    exec (.frameReport (reportOctet false false true s.modem.code) data) s
      = .next (rested (asking [areaPost s 161 [4] (some .fault)] (quieted (s.updModem fun m =>
          { m with
            frame := none, send := .aborting 0, waited := 0, runOpen := false, underrun := false, fillCount := 0 })))) := by
  refine report_of_sendReport hrest hframe ?_ hmode hacked rfl (hrest.updModem _)
  rw [sendReport_unanswered (s := unframed s) (.inr ⟨hsend, rfl⟩), countWaited_beyond (s := unframed s) hover,
    handshakeTimeout_posts (s := (unframed s).updModem fun m => { m with waited := m.waited + 1 }) hrest.active hrun hblock
      hspent hclosed]
  rfl

/-- The acknowledged fill byte of the frame that ends is counted, and the new total is posted (R104). -/
theorem fillCounted_retracting (b : SendByte) :
    fillCounted (retracting b (unframed s)) = asking [areaPost s 184 (be32 (s.modem.fillTotal + 1).toNat) none]
      (s.updModem fun m =>
        { m with frame := none, send := .retracting b, waited := 0, fillCount := m.fillCount + 1, fillTotal := m.fillTotal + 1 }) := by
  have htotal : (retracting b (unframed s)).modem.fillTotal = s.modem.fillTotal := rfl
  rw [fillCounted, htotal]
  rfl

theorem report_fill_acked {b : SendByte} (hrest : atRest s) (hrun : s.regs.engine = .running)
    (hframe : s.modem.frame = some (o, d)) (hacked : s.modem.acked = false) (hwork : s.modem.sendWork = none)
    (hsend : s.modem.send = .offered b) (hfill : b.fill = true) (hmore : s.modem.fillCount + 1 < s.modem.fillLimit) :
    exec (.frameReport (reportOctet false false true s.modem.code) data) s
      = .next (rested (asking [areaPost s 184 (be32 (s.modem.fillTotal + 1).toNat) none]
          (quieted (s.updModem fun m =>
            { m with
              frame := none, send := .retracting b, waited := 0, fillCount := m.fillCount + 1
              fillTotal := m.fillTotal + 1 })))) := by
  refine report_of_sendReport hrest hframe ?_ (unarmed_of_none hwork) hacked rfl (hrest.updModem _)
  rw [sendReport_acknowledged (s := unframed s) hsend, if_pos hfill,
    fillAcked_more (s := retracting b (unframed s)) hrest.active hrun hmore, fillCounted_retracting]

theorem report_fill_limit {b : SendByte} (hrest : atRest s) (hrun : s.regs.engine = .running)
    (hframe : s.modem.frame = some (o, d)) (hacked : s.modem.acked = false) (hwork : s.modem.sendWork = none)
    (hsend : s.modem.send = .offered b) (hfill : b.fill = true) (hnone : (s.chain .send).taken = none)
    (hlimit : s.modem.fillLimit ≤ s.modem.fillCount + 1) :
    exec (.frameReport (reportOctet false false true s.modem.code) data) s
      = .next (rested (asking [areaPost s 184 (be32 (s.modem.fillTotal + 1).toNat) none, areaPost s 161 [5] (some .fault)]
          (quieted (s.updModem fun m =>
            { m with
              frame := none, send := .aborting 0, waited := 0, runOpen := false, underrun := false, fillCount := 0
              fillTotal := m.fillTotal + 1 })))) := by
  refine report_of_sendReport hrest hframe ?_ (unarmed_of_none hwork) hacked rfl (hrest.updModem _)
  rw [sendReport_acknowledged (s := unframed s) hsend, if_pos hfill,
    fillAcked_limit (s := retracting b (unframed s)) hrest.active hrun hnone hwork hlimit, fillCounted_retracting]
  show asking [areaPost s 161 [5] (some .fault)] (asking [areaPost s 184 (be32 (s.modem.fillTotal + 1).toNat) none]
    (enterAborting (s.updModem _))) = _
  rw [asking_asking]
  rfl

theorem report_run_closed {b : SendByte} (hrest : atRest s) (hframe : s.modem.frame = some (o, d))
    (hacked : s.modem.acked = false) (hmode : unarmed s) (hsend : s.modem.send = .retracting b)
    (hclosed : s.modem.runOpen = false) :
    exec (.frameReport (reportOctet false false false s.modem.code) data) s = .next (rested (asking []
      (quieted (s.updModem fun m => { m with frame := none, send := .idle, waited := 0 })))) := by
  refine report_of_sendReport_silent hrest hframe ?_ hmode hacked rfl (hrest.updModem _)
  rw [sendReport_dropped (s := unframed s) hsend, handshakeIdle_closed (s := unframed s) hclosed]
  rfl

theorem report_underruns {b : SendByte} (hrest : atRest s) (hframe : s.modem.frame = some (o, d))
    (hacked : s.modem.acked = false) (hmode : unarmed s) (hsend : s.modem.send = .retracting b)
    (hopen : s.modem.runOpen = true) (hnone : (s.chain .send).taken = none) :
    exec (.frameReport (reportOctet false false false s.modem.code) data) s = .next (rested (asking []
      (quieted (s.updModem fun m =>
        { m with
          frame := none, send := .idle, waited := 0, underrun := true
          fillCount := if m.underrun then m.fillCount else 0 })))) := by
  refine report_of_sendReport_silent hrest hframe ?_ hmode hacked rfl (hrest.updModem _)
  rw [sendReport_dropped (s := unframed s) hsend,
    handshakeIdle_open (s := unframed s) hopen (noBlock_of_none_taken (s := unframed s) hnone)]
  rfl

theorem report_waits {b : SendByte} {oa : Bool} (hrest : atRest s) (hframe : s.modem.frame = some (o, d))
    (hacked : s.modem.acked = false) (hmode : unarmed s) (hsend : unanswered b oa s)
    (hwithin : s.modem.waited + 1 ≤ s.modem.ackLimit) :
    exec (.frameReport (reportOctet false false oa s.modem.code) data) s = .next (rested (asking []
      (quieted (s.updModem fun m => { m with frame := none, waited := m.waited + 1 })))) := by
  refine report_of_sendReport_silent hrest hframe ?_ hmode hacked rfl (hrest.updModem _)
  rw [sendReport_unanswered (s := unframed s) (b := b) hsend, countWaited_within (s := unframed s) hwithin]
  rfl

theorem report_abort_counts {n : Nat} (hrest : atRest s) (hframe : s.modem.frame = some (o, d))
    (hacked : s.modem.acked = false) (hmode : unarmed s) (hsend : s.modem.send = .aborting n) (hab : o.getLsbD 0 = true)
    (hmore : n + 1 < 4) :
    exec (.frameReport (reportOctet false false false s.modem.code) data) s = .next (rested (asking []
      (quieted (s.updModem fun m => { m with frame := none, send := .aborting (n + 1) })))) := by
  refine report_of_sendReport_silent hrest hframe ?_ hmode hacked rfl (hrest.updModem _)
  rw [hab, sendReport_abort_counts (s := unframed s) hsend hmore]
  rfl

theorem report_abort_ends {n : Nat} (hrest : atRest s) (hframe : s.modem.frame = some (o, d))
    (hacked : s.modem.acked = false) (hmode : unarmed s) (hsend : s.modem.send = .aborting n) (hab : o.getLsbD 0 = true)
    (hlast : 4 ≤ n + 1) (hclosed : s.modem.runOpen = false) (hreset : s.modem.resetAbort = false) :
    exec (.frameReport (reportOctet false false false s.modem.code) data) s = .next (rested (asking []
      (quieted (s.updModem fun m => { m with frame := none, send := .idle, waited := 0 })))) := by
  refine report_of_sendReport_silent hrest hframe ?_ hmode hacked rfl (hrest.updModem _)
  rw [hab, sendReport_abort_ends (s := unframed s) hsend hlast false hreset, handshakeIdle_closed (s := unframed s) hclosed]
  rfl

/-! ## The frames of a MODE CHANGE (R105) -/

theorem report_mode_first {c : BitVec 4} (hrest : atRest s) (hframe : s.modem.frame = some (o, d))
    (hacked : s.modem.acked = false) (hidle : s.modem.send = .idle) (hwork : s.modem.sendWork = some (.mode c 0 true)) :
    exec (.frameReport (reportOctet false false false s.modem.code) data) s = .next (rested (asking []
      (quieted ((unframed s).updModem fun m => { m with sendWork := some (.mode c 1 false) })))) := by
  have hstage : countModeFrame (sendReport false (o.getLsbD 0) (unframed s))
      = (unframed s).updModem fun m => { m with sendWork := some (.mode c 1 false) } := by
    rw [sendReport_idle (s := unframed s) hidle, countModeFrame_first (s := unframed s) hwork]
  rw [asking_nil]
  exact exec_quietReport hrest.active hframe hstage hacked rfl hrest

theorem report_mode_second {c : BitVec 4} {n : Nat} {r : Taken} (hrest : atRest s) (hframe : s.modem.frame = some (o, d))
    (hacked : s.modem.acked = false) (hidle : s.modem.send = .idle) (hwork : s.modem.sendWork = some (.mode c n true))
    (htaken : (s.chain .send).taken = some r) (hstage : r.stage = .working) (hn : 1 ≤ n) :
    exec (.frameReport (reportOctet false false false s.modem.code) data) s = .next (rested (quieted
      (ending .send r .done .none [resultWord c.toNat]
        ((unframed s).updModem fun m => { m with sendWork := none, waitTimer := none })))) := by
  have hend : countModeFrame (sendReport false (o.getLsbD 0) (unframed s)) = ending .send r .done .none [resultWord c.toNat]
      ((unframed s).updModem fun m => { m with sendWork := none, waitTimer := none }) := by
    rw [sendReport_idle (s := unframed s) hidle, countModeFrame_second (s := unframed s) hwork hn]
    exact endSend_mode (s := unframed s) hrest.active htaken hstage hwork .done .none
  exact exec_quietReport hrest.active hframe hend hacked rfl (((hrest.updModem _).updModem _).ending ..)

/-! ## Reports with the send handshake IDLE -/

/-- With the send handshake IDLE and no MODE CHANGE a report is the receive handshake's and the code's. -/
theorem report_of_receiveReport {iv il oa : Bool} {code : BitVec 4} {u v : State} (hrest : atRest s)
    (hframe : s.modem.frame = some (o, d)) (hidle : s.modem.send = .idle) (hmode : unarmed s)
    (hreceive : receiveReport iv il data (unframed s) = u) (hcode : codeReport code u = v) (hv : atRest v) :
    exec (.frameReport (reportOctet iv il oa code) data) s = .next (rested v) :=
  exec_frameReport hrest.active hframe (sendStage_of_unarmed (sendReport_idle (s := unframed s) hidle _ _) hmode) hreceive
    hcode hv

/-- The same under the accepted code. -/
theorem report_same_code {iv il : Bool} {u : State} (hrest : atRest s) (hframe : s.modem.frame = some (o, d))
    (hidle : s.modem.send = .idle) (hmode : unarmed s) (hreceive : receiveReport iv il data (unframed s) = u)
    (hcode : u.modem.code = s.modem.code) (hu : atRest u) :
    exec (.frameReport (reportOctet iv il false s.modem.code) data) s
      = .next (rested (u.updModem fun m => { m with candidate := none })) :=
  report_of_receiveReport hrest hframe hidle hmode hreceive (codeReport_same hcode) hu

/-- A byte that finds a buffer and the latch empty is acknowledged, and its write is asked for (R107). -/
theorem report_latches {il : Bool} {j : ReceiveJob} (hrest : atRest s) (hframe : s.modem.frame = some (o, d))
    (hidle : s.modem.send = .idle) (hmode : unarmed s) (hacked : s.modem.acked = false)
    (hwork : s.modem.receiveWork = some j) (hlatch : s.modem.latch = none) :
    exec (.frameReport (reportOctet true il false s.modem.code) data) s
      = .next (rested ((latched j data il (unframed s)).updModem fun m => { m with candidate := none })) := by
  have hreceive := receiveReport_latches (s := unframed s) hrest.active hacked hwork hlatch il data
  exact report_same_code hrest hframe hidle hmode hreceive rfl ((hrest.updModem _).latched ..)

theorem report_latch_full {il : Bool} {j : ReceiveJob} (hrest : atRest s) (hframe : s.modem.frame = some (o, d))
    (hidle : s.modem.send = .idle) (hmode : unarmed s) (hacked : s.modem.acked = false)
    (hwork : s.modem.receiveWork = some j) (hlatch : s.modem.latch ≠ none) :
    exec (.frameReport (reportOctet true il false s.modem.code) data) s
      = .next (rested (s.updModem fun m => { m with frame := none, candidate := none })) := by
  have hreceive := receiveReport_full (s := unframed s) hrest.active hacked hwork hlatch il data
  exact report_same_code hrest hframe hidle hmode hreceive rfl (hrest.updModem _)

theorem report_holds {il : Bool} (hrest : atRest s) (hrun : s.regs.engine = .running)
    (hframe : s.modem.frame = some (o, d)) (hidle : s.modem.send = .idle) (hmode : unarmed s)
    (hacked : s.modem.acked = false) (hwork : s.modem.receiveWork = none) (hnone : (s.chain .receive).taken = none)
    (hhold : s.modem.holdActive = false) :
    exec (.frameReport (reportOctet true il false s.modem.code) data) s = .next (rested (s.updModem fun m =>
      { m with
        frame := none, candidate := none, holdActive := true
        holdTimer := if m.holdLimitMs = 0 then none else some (m.holdLimitMs * 1000) })) := by
  have hreceive := receiveReport_holds (s := unframed s) hrest.active hrun hacked hwork hnone hhold il data
  exact report_same_code hrest hframe hidle hmode hreceive rfl ((hrest.updModem _).updModem _)

theorem report_while_acked {iv il : Bool} (hrest : atRest s) (hframe : s.modem.frame = some (o, d))
    (hidle : s.modem.send = .idle) (hmode : unarmed s) (hacked : s.modem.acked = true) :
    exec (.frameReport (reportOctet iv il false s.modem.code) data) s
      = .next (rested (s.updModem fun m => { m with frame := none, candidate := none, acked := iv })) := by
  have hreceive := receiveReport_acked (s := unframed s) hacked iv il data
  exact report_same_code hrest hframe hidle hmode hreceive rfl ((hrest.updModem _).updModem _)

/-- The state in which a report without IV leaves the code to be looked at. -/
def heldOff (s : State) : State := (unframed s).updModem fun m => { m with holdActive := false, holdTimer := none }

theorem report_code {code : BitVec 4} {v : State} (hrest : atRest s) (hframe : s.modem.frame = some (o, d))
    (hacked : s.modem.acked = false) (hidle : s.modem.send = .idle) (hmode : unarmed s)
    (hcode : codeReport code (heldOff s) = v) (hv : atRest v) :
    exec (.frameReport (reportOctet false false false code) data) s = .next (rested v) :=
  report_of_receiveReport hrest hframe hidle hmode (receiveReport_silent (s := unframed s) hacked false data) hcode hv

theorem report_code_first {code : BitVec 4} (hrest : atRest s) (hframe : s.modem.frame = some (o, d))
    (hacked : s.modem.acked = false) (hidle : s.modem.send = .idle) (hwork : s.modem.sendWork = none)
    (hnew : code ≠ s.modem.code) (hfirst : s.modem.candidate ≠ some code) :
    exec (.frameReport (reportOctet false false false code) data) s = .next (rested (s.updModem fun m =>
      { m with frame := none, holdActive := false, holdTimer := none, candidate := some code })) := by
  have hcode := codeReport_first (s := heldOff s) hnew hfirst
  exact report_code hrest hframe hacked hidle (unarmed_of_none hwork) hcode (hrest.updModem _)

theorem report_code_accepted {code : BitVec 4} (hrest : atRest s) (hrun : s.regs.engine = .running)
    (hframe : s.modem.frame = some (o, d)) (hacked : s.modem.acked = false) (hidle : s.modem.send = .idle)
    (hwork : s.modem.sendWork = none) (hnew : code ≠ s.modem.code) (hsecond : s.modem.candidate = some code)
    (hcode : code ≠ 15) :
    exec (.frameReport (reportOctet false false false code) data) s = .next (rested (codeTaken code (heldOff s))) := by
  have hrest' : atRest (codeTaken code (heldOff s)) := (((hrest.updModem _).updModem _).updModem _).asking _
  refine report_code hrest hframe hacked hidle (unarmed_of_none hwork) ?_ hrest'
  have hwait : ∀ m v t0 ms, (heldOff s).modem.sendWork ≠ some (.wait m v t0 ms) := by
    intro m v t0 ms h
    cases hwork.symm.trans h
  rw [codeReport_second (s := heldOff s) hrest.active hrun hnew hsecond hwait, if_neg hcode]

/-- An accepted code 15 is posted, and has failed the block in work and aborted its run (R97, R98). -/
theorem report_code_fault {j : SendBlockJob} {r : Taken} (hrest : atRest s)
    (hrun : s.regs.engine = .running) (hframe : s.modem.frame = some (o, d)) (hacked : s.modem.acked = false)
    (hidle : s.modem.send = .idle) (hnew : s.modem.code ≠ 15) (hsecond : s.modem.candidate = some 15)
    (hopen : s.modem.runOpen = true) (hwork : s.modem.sendWork = some (.block j))
    (htaken : (s.chain .send).taken = some r) (hstage : r.stage = .working) (hnone : s.modem.receiveWork = none) :
    ∃ t, exec (.frameReport (reportOctet false false false 15) data) s = .next (rested t)
      ∧ areaPost s 164 [15] (some .condition) ∈ t.dram.chain
      ∧ BlockEnds r .failed .modemFault j
        { s.modem with
          frame := none, holdActive := false, holdTimer := none, code := 15, candidate := none, postedCode := 15, store := []
          fetching := 0, sendWork := none, waitTimer := none, send := .aborting 0, waited := 0, runOpen := false
          underrun := false, fillCount := 0 } s t := by
  have hwait : ∀ m v t0 ms, (heldOff s).modem.sendWork ≠ some (.wait m v t0 ms) := by
    intro m v t0 ms h
    cases hwork.symm.trans h
  have hcode : codeReport 15 (heldOff s) = enterAborting (blockEnded r .failed .modemFault j (codeTaken 15 (heldOff s))) := by
    rw [codeReport_second (s := heldOff s) hrest.active hrun hnew.symm hsecond hwait, if_pos rfl]
    exact modemFault_block (s := codeTaken 15 (heldOff s)) hrest.active htaken hstage hwork hnone hopen
  have hrest' : atRest (codeTaken 15 (heldOff s)) := (((hrest.updModem _).updModem _).updModem _).asking _
  have hexec := report_code (data := data) hrest hframe hacked hidle (unarmed_of_block hwork) hcode
    ((hrest'.blockEnded ..).updModem _)
  have hends := blockEnds_blockEnded r .failed .modemFault j (codeTaken 15 (heldOff s))
  refine ⟨_, hexec, ?_, hends.asking_left.updModem_left.updModem_left.updModem_left.updModem_right _⟩
  have hchain : (enterAborting (blockEnded r .failed .modemFault j (codeTaken 15 (heldOff s)))).dram.chain
      = _ := blockEnded_chain ..
  have hposted : areaPost s 164 [15] (some .condition) ∈ (codeTaken 15 (heldOff s)).dram.chain :=
    List.mem_append_right _ (List.mem_singleton.2 rfl)
  rw [hchain]
  exact List.mem_append_left _ hposted

end

/-! ## The statement -/

/-- Settles O58: each frame sync is its offer, each report its handshakes' stages, and the timer's expiry the link's going DOWN. -/
theorem linkFrames : Obligations.LinkFrames := by
  refine ⟨?_, ?_, ?_, ?_, ?_⟩
  · intro s hrest hrun
    refine ⟨?_, ?_, ?_, ?_⟩
    · intro hdown hidle hwork hunder
      exact frameSync_raises_link hrest hrun hdown hidle hwork hunder
    · intro j b rest hup hidle hwork hoffered hstore hfetching
      exact completes_of_rested (frameSync_offers_block hrest hup hidle hwork hoffered hstore hfetching) fun n =>
        ⟨⟨_, rfl, rfl, rfl, rfl⟩, rfl, rfl, rfl, rfl, ⟨_, rfl, controlOctet_fields ..⟩, rfl,
          ((keptByLink_refl s).updModem_right _).idledAt n⟩
    · intro hup hidle hwork hunder hfill hnone
      exact completes_of_rested (frameSync_offers_fill hrest hup hidle hwork hunder hfill hnone) fun n =>
        ⟨rfl, rfl, ⟨_, rfl, controlOctet_fields ..⟩, hunder, rfl, rfl, ((keptByLink_refl s).updModem_right _).idledAt n⟩
    · intro k hup hsend hwork
      exact completes_of_rested (frameSync_aborting hrest hup hsend hwork) fun n =>
        ⟨hsend, ⟨_, rfl, controlOctet_fields ..⟩, rfl, ((keptByLink_refl s).updModem_right _).idledAt n⟩
  · intro s o d data hrest hrun hframe
    refine ⟨?_, ?_, ?_, ?_, ?_, ?_, ?_, ?_, ?_, ?_, ?_, ?_, ?_, ?_⟩
    · intro j b r hacked hsend hblock hwork htaken hstage
      rcases Nat.lt_or_ge (j.sent + 1) j.count with hmore | hlast
      · exact completes_of_rested (report_block_acked hrest hframe hacked hsend hblock hwork hmore) fun n =>
          ⟨rfl, rfl, fun _ => ⟨rfl, rfl, rfl⟩, fun h => absurd hmore (Nat.not_lt.2 h),
            (((keptByLink_refl s).updModem_right _).updModem_right _).idledAt n⟩
      · obtain ⟨t, hexec, hends⟩ := report_block_done hrest hframe hacked hsend hblock hwork htaken hstage hlast
        refine completes_of_rested hexec fun n => ?_
        obtain ⟨hmodem, hended, -, hkept⟩ := hends.idledAt n
        rw [hmodem]
        exact ⟨rfl, rfl, fun h => absurd h (Nat.not_lt.2 hlast), fun _ => ⟨rfl, rfl, rfl, rfl, rfl, hended⟩, hkept⟩
    · intro b hacked hmode hsend hclosed
      exact report_run_closed hrest hframe hacked hmode hsend hclosed
    · intro b hacked hmode hsend hopen hnone
      exact report_underruns hrest hframe hacked hmode hsend hopen hnone
    · intro b hacked hmode
      refine ⟨?_, ?_⟩
      · intro hsend hwithin
        exact report_waits hrest hframe hacked hmode (.inl ⟨hsend, rfl⟩) hwithin
      · intro hsend hwithin
        exact report_waits hrest hframe hacked hmode (.inr ⟨hsend, rfl⟩) hwithin
    · intro b j r hacked hblock hover hwork htaken hstage hkind hsend
      obtain ⟨hunanswered, hopen⟩ := unanswered_of_timeout hsend
      obtain ⟨t, hexec, hends⟩ :=
        report_block_timeout hrest hframe hacked hblock hover hwork htaken hstage hkind hunanswered hopen
      refine completes_of_rested hexec fun n => ?_
      obtain ⟨hmodem, hended, hresult, hkept⟩ := hends.idledAt n
      rw [hmodem]
      exact ⟨rfl, rfl, rfl, rfl, rfl, rfl, hended, hresult, hkept⟩
    · intro b r hacked hmode hblock hsend hover hspent hclosed _ _
      exact report_spent_timeout hrest hrun hframe hacked hmode hblock hsend hover hspent hclosed
    · intro n hacked hmode hsend hab hclosed hreset
      refine ⟨?_, ?_⟩
      · intro hmore
        exact report_abort_counts hrest hframe hacked hmode hsend hab hmore
      · intro hlast
        exact report_abort_ends hrest hframe hacked hmode hsend hab hlast hclosed hreset
    · intro b hacked hwork hsend hfill hnone
      refine ⟨?_, ?_⟩
      · intro hmore
        exact report_fill_acked hrest hrun hframe hacked hwork hsend hfill hmore
      · intro hlimit
        exact report_fill_limit hrest hrun hframe hacked hwork hsend hfill hnone hlimit
    · intro c n r hacked hidle hwork htaken hstage
      refine ⟨?_, ?_⟩
      · rintro rfl
        exact report_mode_first hrest hframe hacked hidle hwork
      · intro hn
        have hends := ending_endsWith .send r .done .none [resultWord c.toNat]
          ((unframed s).updModem fun m => { m with sendWork := none, waitTimer := none })
        have hkept := keptByLink_ending r .done .none [resultWord c.toNat]
          ((unframed s).updModem fun m => { m with sendWork := none, waitTimer := none })
        exact completes_of_rested (report_mode_second hrest hframe hacked hidle hwork htaken hstage hn) fun k =>
          ⟨hends.congr rfl (by simp) (by simp), rfl,
            (hkept.updModem_left.updModem_left.updModem_right _).idledAt k⟩
    · intro j il hacked hidle hmode hwork
      refine ⟨?_, ?_⟩
      · intro hlatch
        exact report_latches hrest hframe hidle hmode hacked hwork hlatch
      · intro hlatch
        exact report_latch_full hrest hframe hidle hmode hacked hwork hlatch
    · intro il hacked hidle hmode hwork hnone hhold
      exact report_holds hrest hrun hframe hidle hmode hacked hwork hnone hhold
    · intro iv il hacked hidle hmode
      exact report_while_acked hrest hframe hidle hmode hacked
    · intro code hacked hidle hwork hnew
      refine ⟨?_, ?_⟩
      · intro hfirst
        exact report_code_first hrest hframe hacked hidle hwork hnew hfirst
      · intro hsecond hcode
        exact report_code_accepted hrest hrun hframe hacked hidle hwork hnew hsecond hcode
    · intro j r hacked hidle hnew hsecond hopen hwork htaken hstage hnone
      obtain ⟨t, hexec, hposted, hends⟩ :=
        report_code_fault hrest hrun hframe hacked hidle hnew hsecond hopen hwork htaken hstage hnone
      refine completes_of_rested hexec fun n => ?_
      obtain ⟨hmodem, hended, -, hkept⟩ := hends.idledAt n
      rw [hmodem]
      exact ⟨rfl, rfl, rfl, rfl, hposted, hended, hkept⟩
  · intro s hrest hrun hup htimer hsend hreceive hreset
    exact linkTimerExpiry_running hrest hrun htimer hsend hreceive hreset
  · intro s before x hrest hreset hgrant hchain hx hbefore hup htimer hsend hreceive
    have hdown := linkDown_of_resetting hrest.active hreset hgrant hchain hx hbefore hsend hreceive
    exact completes_of_rested (exec_linkTimerExpiry htimer hdown ((hrest.updModem _).updDram _)) fun n =>
      ⟨downed_linkUp s.modem, rfl, rfl, rfl⟩
  · intro s h
    exact if_neg h

end Sys2Proof.Machine
